-- ==== Sys2Proof/Word.lean ====
section
/-! DEFINITION. The machine's word types: 32-bit words, 16-bit halfwords, 8-bit bytes (00_scope.md R9, R12). -/

namespace Sys2Proof

/-- A 32-bit register or address value (R9). -/
abbrev Word := BitVec 32

/-- A 16-bit value: a Thumb instruction or a halfword of memory (R84). -/
abbrev Half := BitVec 16

/-- A byte of memory (R80). -/
abbrev Byte := BitVec 8

/-- A 64-bit value: a long product or a cycle counter (R51, R300). -/
abbrev DWord := BitVec 64

/-- A logical register number, 0 to 15 (10_state.md R30). -/
abbrev Reg := Fin 16

/-- A low register number of the 16-bit encoding, 0 to 7 (30_encoding.md R155). -/
abbrev LoReg := Fin 8

/-- A low register as a logical register number (R155). -/
def LoReg.toReg (r : LoReg) : Reg := ⟨r.val, by omega⟩

/-- The width of one memory access (20_memory.md R84). -/
inductive Width where
  | w8 | w16 | w32
  deriving DecidableEq, Repr

/-- The number of bytes an access moves (R84). -/
def Width.bytes : Width → Nat
  | .w8 => 1
  | .w16 => 2
  | .w32 => 4

end Sys2Proof
end

