-- ==== Sys2Proof/Config.lean ====
section
/-! DEFINITION. What a configuration fixes: the parameters of 00_scope.md R10, and the two free values of R11. -/

namespace Sys2Proof

/-- `UNPREDICTABLE_POLICY` (R10, 92_eei_decisions.md D2): what an UNPREDICTABLE case does. -/
inductive UnpredictablePolicy where
  | fault | arm7tdmi
  deriving DecidableEq, Repr

/-- `UNDEF_POLICY` (R10, 44_arm_branch_system.md R390, D3). -/
inductive UndefPolicy where
  | nop | trap
  deriving DecidableEq, Repr

/-- `PC_REGSHIFT_STORE_READ` (R10, 10_state.md R37, D4). -/
inductive PcStoreRead where
  | plus8 | plus12
  deriving DecidableEq, Repr

/-- `VRAM_TAIL_BASE` (R10, 20_memory.md R97, D7): 0x00000 or 0x10000. -/
inductive VramTail where
  | base00000 | base10000
  deriving DecidableEq, Repr

/-- `IO_OOW_POLICY` (R10, R95, D9). -/
inductive OowPolicy where
  | discard | fault
  deriving DecidableEq, Repr

/-- `BOOT_MODE` (R10, 70_reset_and_hazards.md R571, D12). -/
inductive BootMode where
  | cold | direct
  deriving DecidableEq, Repr

/-- How an exception return aligns its target (log 4). `stepwise` is the pseudocode of 41_arm_data_processing.md R259 and the words of
43_arm_load_store.md R357: aligned for the T bit before the restore, then for the restored one. `restored` is the second alone, under which
`MOVS PC, R14` and `SUBS PC, R14, #4` resume a Thumb program where 47_thumb_branch.md R501 and 60_exceptions.md R535 say. -/
inductive ReturnAlign where
  | stepwise | restored
  deriving DecidableEq, Repr

/-- The parameters of R10 that are not themselves state, and the model's own `dpReturn` and `ldmReturn` (log 4).
`BIOS_IMAGE`, `ROM_IMAGE` and `SRAM_INIT` are bytes of memory at reset, of which only the sizes stand here;
`COST_CODE` and `COST_DATA` are fields of State (R56), and `FIQ_LINE` is an input of the step (R541).
DESIGN CHOICE (log 1): State holds the configuration, so a statement about every state is about every configuration. -/
structure Config where
  unpredictable : UnpredictablePolicy
  undef : UndefPolicy
  pcStoreRead : PcStoreRead
  romSize : Nat
  sramSize : Nat
  vramTail : VramTail
  ioWindowLast : Nat
  oow : OowPolicy
  boot : BootMode
  dpReturn : ReturnAlign
  ldmReturn : ReturnAlign
  deriving DecidableEq, Repr

/-- The ranges R10 gives the sized parameters. -/
def Config.wf (c : Config) : Bool :=
  decide (c.romSize ≤ 0x2000000) && decide (c.sramSize ≤ 0x10000) &&
    decide (0x04000000 ≤ c.ioWindowLast) && decide (c.ioWindowLast ≤ 0x04FFFFFF)

/-- `Draw.mulC` (R11, 42_arm_multiply.md R309): the C flag of a flag-setting multiply, a free value of each step.
DESIGN CHOICE of the form, safe (log 5): no body, so nothing is known of it. -/
opaque Config.mulC : Nat → Bool

/-- `Draw.mulV` (R11, R309): the V flag of a flag-setting long multiply, a free value of each step (log 5, safe). -/
opaque Config.mulV : Nat → Bool

/-- The two kinds of access the cost tables tell apart (20_memory.md R121). -/
inductive Kind where
  | code | data
  deriving DecidableEq, Repr

/-- Sequential or non-sequential (R121). -/
inductive Seq where
  | s | n
  deriving DecidableEq, Repr

/-- The cycles of one region: each width, non-sequential and sequential (R120). -/
structure CostRow where
  n8 : Nat
  s8 : Nat
  n16 : Nat
  s16 : Nat
  n32 : Nat
  s32 : Nat
  deriving DecidableEq, Repr

/-- A cost table, keyed by the top address byte (R120). Every top byte without a field costs one cycle, always:
"addresses outside the known region set default to a flat 1-cycle cost". -/
structure CostTable where
  bios : CostRow
  ewram : CostRow
  iwram : CostRow
  io : CostRow
  pal : CostRow
  vram : CostRow
  oam : CostRow
  top08 : CostRow
  top09 : CostRow
  top0A : CostRow
  top0B : CostRow
  top0C : CostRow
  top0D : CostRow
  top0E : CostRow
  top0F : CostRow
  deriving DecidableEq, Repr

end Sys2Proof
end

