-- ==== Sys2Proof/Syntax.lean ====
section
/-! DEFINITION. The instructions: one constructor per row of spec/opcode_table.json, in the table's (decode) order.
Bits a row's instruction ignores (SBZ, SBO, an ignored Rn or Rd) are no field of its constructor (30_encoding.md R151, log 21). -/

namespace Sys2Proof

/-- The sixteen condition codes, in the order of their encodings (40_shifter_alu_cond.md R230). -/
inductive Cond where
  | eq | ne | cs | cc | mi | pl | vs | vc | hi | ls | ge | lt | gt | le | al | nv
  deriving DecidableEq, Repr

/-- The shift types (30_encoding.md R144). -/
inductive ShiftType where
  | lsl | lsr | asr | ror
  deriving DecidableEq, Repr

/-- A rotated-immediate operand (R145). -/
structure RotImm where
  rot : BitVec 4
  imm8 : BitVec 8
  deriving DecidableEq, Repr

/-- A register shifted by a 5-bit immediate (R146). -/
structure ImmShift where
  rm : Reg
  ty : ShiftType
  amt : BitVec 5
  deriving DecidableEq, Repr

/-- A register shifted by a register (R146). -/
structure RegShift where
  rm : Reg
  ty : ShiftType
  rs : Reg
  deriving DecidableEq, Repr

/-- The P, U and W bits of a transfer (R142): pre-index, add the offset, write back. -/
structure Idx where
  p : Bool
  u : Bool
  w : Bool
  deriving DecidableEq, Repr

/-- The instructions. `c` is the condition of an ARM instruction (R141), `s` its flag-setting bit, `r` its SPSR select. -/
inductive Instr where
  -- ARM multiply (42_arm_multiply.md)
  /-- `MUL` (R302). -/
  | mul (c : Cond) (s : Bool) (rd rs rm : Reg)
  /-- `MLA` (R303). -/
  | mla (c : Cond) (s : Bool) (rd rn rs rm : Reg)
  /-- `UNDEF_mul` (R390). -/
  | undefMul (c : Cond)
  /-- `UMULL` (R304). -/
  | umull (c : Cond) (s : Bool) (rdHi rdLo rs rm : Reg)
  /-- `UMLAL` (R305). -/
  | umlal (c : Cond) (s : Bool) (rdHi rdLo rs rm : Reg)
  /-- `SMULL` (R306). -/
  | smull (c : Cond) (s : Bool) (rdHi rdLo rs rm : Reg)
  /-- `SMLAL` (R307). -/
  | smlal (c : Cond) (s : Bool) (rdHi rdLo rs rm : Reg)
  -- ARM swap (43_arm_load_store.md R360, R361)
  /-- `SWP` (R360). -/
  | swp (c : Cond) (rn rd rm : Reg)
  /-- `SWPB` (R361). -/
  | swpb (c : Cond) (rn rd rm : Reg)
  /-- `UNDEF_swp` (R390). -/
  | undefSwp (c : Cond)
  -- ARM halfword and signed transfers (43_arm_load_store.md R335 to R339)
  /-- `STRH_reg` (R338). -/
  | strhReg (c : Cond) (m : Idx) (rn rd rm : Reg)
  /-- `STRH_imm` (R338). -/
  | strhImm (c : Cond) (m : Idx) (rn rd : Reg) (off : BitVec 8)
  /-- `LDRH_reg` (R336). -/
  | ldrhReg (c : Cond) (m : Idx) (rn rd rm : Reg)
  /-- `LDRH_imm` (R336). -/
  | ldrhImm (c : Cond) (m : Idx) (rn rd : Reg) (off : BitVec 8)
  /-- `LDRSB_reg` (R337). -/
  | ldrsbReg (c : Cond) (m : Idx) (rn rd rm : Reg)
  /-- `LDRSB_imm` (R337). -/
  | ldrsbImm (c : Cond) (m : Idx) (rn rd : Reg) (off : BitVec 8)
  /-- `LDRSH_reg` (R339). -/
  | ldrshReg (c : Cond) (m : Idx) (rn rd rm : Reg)
  /-- `LDRSH_imm` (R339). -/
  | ldrshImm (c : Cond) (m : Idx) (rn rd : Reg) (off : BitVec 8)
  /-- `UNDEF_halfword_store` (R390). -/
  | undefHalfwordStore (c : Cond)
  -- ARM status-register transfer and BX (41_arm_data_processing.md R280 to R284, R376)
  /-- `MRS` (R280). -/
  | mrs (c : Cond) (r : Bool) (rd : Reg)
  /-- `MSR_reg` (R283). -/
  | msrReg (c : Cond) (r : Bool) (mask : BitVec 4) (rm : Reg)
  /-- `BX` (R376). -/
  | bx (c : Cond) (rm : Reg)
  /-- `UNDEF_misc` (R390). -/
  | undefMisc (c : Cond)
  /-- `MSR_imm` (R283). -/
  | msrImm (c : Cond) (r : Bool) (mask : BitVec 4) (o : RotImm)
  /-- `UNDEF_imm_cmp` (R390). -/
  | undefImmCmp (c : Cond)
  -- ARM data processing (41_arm_data_processing.md R250 to R275)
  /-- `AND_imm` (R260). -/
  | andImm (c : Cond) (s : Bool) (rn rd : Reg) (o : RotImm)
  /-- `AND_imm_shift` (R260). -/
  | andImmShift (c : Cond) (s : Bool) (rn rd : Reg) (o : ImmShift)
  /-- `AND_reg_shift` (R260). -/
  | andRegShift (c : Cond) (s : Bool) (rn rd : Reg) (o : RegShift)
  /-- `EOR_imm` (R261). -/
  | eorImm (c : Cond) (s : Bool) (rn rd : Reg) (o : RotImm)
  /-- `EOR_imm_shift` (R261). -/
  | eorImmShift (c : Cond) (s : Bool) (rn rd : Reg) (o : ImmShift)
  /-- `EOR_reg_shift` (R261). -/
  | eorRegShift (c : Cond) (s : Bool) (rn rd : Reg) (o : RegShift)
  /-- `SUB_imm` (R262). -/
  | subImm (c : Cond) (s : Bool) (rn rd : Reg) (o : RotImm)
  /-- `SUB_imm_shift` (R262). -/
  | subImmShift (c : Cond) (s : Bool) (rn rd : Reg) (o : ImmShift)
  /-- `SUB_reg_shift` (R262). -/
  | subRegShift (c : Cond) (s : Bool) (rn rd : Reg) (o : RegShift)
  /-- `RSB_imm` (R263). -/
  | rsbImm (c : Cond) (s : Bool) (rn rd : Reg) (o : RotImm)
  /-- `RSB_imm_shift` (R263). -/
  | rsbImmShift (c : Cond) (s : Bool) (rn rd : Reg) (o : ImmShift)
  /-- `RSB_reg_shift` (R263). -/
  | rsbRegShift (c : Cond) (s : Bool) (rn rd : Reg) (o : RegShift)
  /-- `ADD_imm` (R264). -/
  | addImm (c : Cond) (s : Bool) (rn rd : Reg) (o : RotImm)
  /-- `ADD_imm_shift` (R264). -/
  | addImmShift (c : Cond) (s : Bool) (rn rd : Reg) (o : ImmShift)
  /-- `ADD_reg_shift` (R264). -/
  | addRegShift (c : Cond) (s : Bool) (rn rd : Reg) (o : RegShift)
  /-- `ADC_imm` (R265). -/
  | adcImm (c : Cond) (s : Bool) (rn rd : Reg) (o : RotImm)
  /-- `ADC_imm_shift` (R265). -/
  | adcImmShift (c : Cond) (s : Bool) (rn rd : Reg) (o : ImmShift)
  /-- `ADC_reg_shift` (R265). -/
  | adcRegShift (c : Cond) (s : Bool) (rn rd : Reg) (o : RegShift)
  /-- `SBC_imm` (R266). -/
  | sbcImm (c : Cond) (s : Bool) (rn rd : Reg) (o : RotImm)
  /-- `SBC_imm_shift` (R266). -/
  | sbcImmShift (c : Cond) (s : Bool) (rn rd : Reg) (o : ImmShift)
  /-- `SBC_reg_shift` (R266). -/
  | sbcRegShift (c : Cond) (s : Bool) (rn rd : Reg) (o : RegShift)
  /-- `RSC_imm` (R267). -/
  | rscImm (c : Cond) (s : Bool) (rn rd : Reg) (o : RotImm)
  /-- `RSC_imm_shift` (R267). -/
  | rscImmShift (c : Cond) (s : Bool) (rn rd : Reg) (o : ImmShift)
  /-- `RSC_reg_shift` (R267). -/
  | rscRegShift (c : Cond) (s : Bool) (rn rd : Reg) (o : RegShift)
  /-- `TST_imm` (R268). -/
  | tstImm (c : Cond) (rn : Reg) (o : RotImm)
  /-- `TST_imm_shift` (R268). -/
  | tstImmShift (c : Cond) (rn : Reg) (o : ImmShift)
  /-- `TST_reg_shift` (R268). -/
  | tstRegShift (c : Cond) (rn : Reg) (o : RegShift)
  /-- `TEQ_imm` (R269). -/
  | teqImm (c : Cond) (rn : Reg) (o : RotImm)
  /-- `TEQ_imm_shift` (R269). -/
  | teqImmShift (c : Cond) (rn : Reg) (o : ImmShift)
  /-- `TEQ_reg_shift` (R269). -/
  | teqRegShift (c : Cond) (rn : Reg) (o : RegShift)
  /-- `CMP_imm` (R270). -/
  | cmpImm (c : Cond) (rn : Reg) (o : RotImm)
  /-- `CMP_imm_shift` (R270). -/
  | cmpImmShift (c : Cond) (rn : Reg) (o : ImmShift)
  /-- `CMP_reg_shift` (R270). -/
  | cmpRegShift (c : Cond) (rn : Reg) (o : RegShift)
  /-- `CMN_imm` (R271). -/
  | cmnImm (c : Cond) (rn : Reg) (o : RotImm)
  /-- `CMN_imm_shift` (R271). -/
  | cmnImmShift (c : Cond) (rn : Reg) (o : ImmShift)
  /-- `CMN_reg_shift` (R271). -/
  | cmnRegShift (c : Cond) (rn : Reg) (o : RegShift)
  /-- `ORR_imm` (R272). -/
  | orrImm (c : Cond) (s : Bool) (rn rd : Reg) (o : RotImm)
  /-- `ORR_imm_shift` (R272). -/
  | orrImmShift (c : Cond) (s : Bool) (rn rd : Reg) (o : ImmShift)
  /-- `ORR_reg_shift` (R272). -/
  | orrRegShift (c : Cond) (s : Bool) (rn rd : Reg) (o : RegShift)
  /-- `MOV_imm` (R273). -/
  | movImm (c : Cond) (s : Bool) (rd : Reg) (o : RotImm)
  /-- `MOV_imm_shift` (R273). -/
  | movImmShift (c : Cond) (s : Bool) (rd : Reg) (o : ImmShift)
  /-- `MOV_reg_shift` (R273). -/
  | movRegShift (c : Cond) (s : Bool) (rd : Reg) (o : RegShift)
  /-- `BIC_imm` (R274). -/
  | bicImm (c : Cond) (s : Bool) (rn rd : Reg) (o : RotImm)
  /-- `BIC_imm_shift` (R274). -/
  | bicImmShift (c : Cond) (s : Bool) (rn rd : Reg) (o : ImmShift)
  /-- `BIC_reg_shift` (R274). -/
  | bicRegShift (c : Cond) (s : Bool) (rn rd : Reg) (o : RegShift)
  /-- `MVN_imm` (R275). -/
  | mvnImm (c : Cond) (s : Bool) (rd : Reg) (o : RotImm)
  /-- `MVN_imm_shift` (R275). -/
  | mvnImmShift (c : Cond) (s : Bool) (rd : Reg) (o : ImmShift)
  /-- `MVN_reg_shift` (R275). -/
  | mvnRegShift (c : Cond) (s : Bool) (rd : Reg) (o : RegShift)
  -- ARM single transfers (43_arm_load_store.md R320 to R330)
  /-- `LDRT_imm` (R327). -/
  | ldrtImm (c : Cond) (u : Bool) (rn rd : Reg) (off : BitVec 12)
  /-- `LDRT_reg` (R327). -/
  | ldrtReg (c : Cond) (u : Bool) (rn rd : Reg) (o : ImmShift)
  /-- `LDRBT_imm` (R328). -/
  | ldrbtImm (c : Cond) (u : Bool) (rn rd : Reg) (off : BitVec 12)
  /-- `LDRBT_reg` (R328). -/
  | ldrbtReg (c : Cond) (u : Bool) (rn rd : Reg) (o : ImmShift)
  /-- `STRT_imm` (R329). -/
  | strtImm (c : Cond) (u : Bool) (rn rd : Reg) (off : BitVec 12)
  /-- `STRT_reg` (R329). -/
  | strtReg (c : Cond) (u : Bool) (rn rd : Reg) (o : ImmShift)
  /-- `STRBT_imm` (R330). -/
  | strbtImm (c : Cond) (u : Bool) (rn rd : Reg) (off : BitVec 12)
  /-- `STRBT_reg` (R330). -/
  | strbtReg (c : Cond) (u : Bool) (rn rd : Reg) (o : ImmShift)
  /-- `LDR_imm` (R322). -/
  | ldrImm (c : Cond) (m : Idx) (rn rd : Reg) (off : BitVec 12)
  /-- `LDR_reg` (R322). -/
  | ldrReg (c : Cond) (m : Idx) (rn rd : Reg) (o : ImmShift)
  /-- `LDRB_imm` (R323). -/
  | ldrbImm (c : Cond) (m : Idx) (rn rd : Reg) (off : BitVec 12)
  /-- `LDRB_reg` (R323). -/
  | ldrbReg (c : Cond) (m : Idx) (rn rd : Reg) (o : ImmShift)
  /-- `STR_imm` (R325). -/
  | strImm (c : Cond) (m : Idx) (rn rd : Reg) (off : BitVec 12)
  /-- `STR_reg` (R325). -/
  | strReg (c : Cond) (m : Idx) (rn rd : Reg) (o : ImmShift)
  /-- `STRB_imm` (R326). -/
  | strbImm (c : Cond) (m : Idx) (rn rd : Reg) (off : BitVec 12)
  /-- `STRB_reg` (R326). -/
  | strbReg (c : Cond) (m : Idx) (rn rd : Reg) (o : ImmShift)
  /-- `UNDEF_media` (R390). -/
  | undefMedia (c : Cond)
  -- ARM block transfers (43_arm_load_store.md R345 to R357)
  /-- `LDM_ret` (R357). -/
  | ldmRet (c : Cond) (m : Idx) (rn : Reg) (list : BitVec 16)
  /-- `LDM_user` (R356). -/
  | ldmUser (c : Cond) (m : Idx) (rn : Reg) (list : BitVec 16)
  /-- `STM_user` (R356). -/
  | stmUser (c : Cond) (m : Idx) (rn : Reg) (list : BitVec 16)
  /-- `LDM` (R347). -/
  | ldm (c : Cond) (m : Idx) (rn : Reg) (list : BitVec 16)
  /-- `STM` (R350). -/
  | stm (c : Cond) (m : Idx) (rn : Reg) (list : BitVec 16)
  -- ARM branches, the coprocessor space and SWI (44_arm_branch_system.md)
  /-- `B` (R370). -/
  | b (c : Cond) (off : BitVec 24)
  /-- `BL` (R371). -/
  | bl (c : Cond) (off : BitVec 24)
  /-- `COPROC_xfer` (R385). -/
  | coprocXfer (c : Cond)
  /-- `COPROC_op` (R385). -/
  | coprocOp (c : Cond)
  /-- `SWI` (R380). -/
  | swi (c : Cond) (comment : BitVec 24)
  -- Thumb data processing (45_thumb_alu.md)
  /-- `T_LSL_imm` (R401). -/
  | tLslImm (off : BitVec 5) (rs rd : LoReg)
  /-- `T_LSR_imm` (R402). -/
  | tLsrImm (off : BitVec 5) (rs rd : LoReg)
  /-- `T_ASR_imm` (R403). -/
  | tAsrImm (off : BitVec 5) (rs rd : LoReg)
  /-- `T_ADD_reg` (R404). -/
  | tAddReg (rn rs rd : LoReg)
  /-- `T_SUB_reg` (R405). -/
  | tSubReg (rn rs rd : LoReg)
  /-- `T_ADD_imm3` (R406). -/
  | tAddImm3 (off : BitVec 3) (rs rd : LoReg)
  /-- `T_SUB_imm3` (R407). -/
  | tSubImm3 (off : BitVec 3) (rs rd : LoReg)
  /-- `T_MOV_imm` (R408). -/
  | tMovImm (rd : LoReg) (off : BitVec 8)
  /-- `T_CMP_imm` (R409). -/
  | tCmpImm (rd : LoReg) (off : BitVec 8)
  /-- `T_ADD_imm8` (R410). -/
  | tAddImm8 (rd : LoReg) (off : BitVec 8)
  /-- `T_SUB_imm8` (R411). -/
  | tSubImm8 (rd : LoReg) (off : BitVec 8)
  /-- `T_AND` (R412). -/
  | tAnd (rs rd : LoReg)
  /-- `T_EOR` (R413). -/
  | tEor (rs rd : LoReg)
  /-- `T_LSL` (R414). -/
  | tLsl (rs rd : LoReg)
  /-- `T_LSR` (R415). -/
  | tLsr (rs rd : LoReg)
  /-- `T_ASR` (R416). -/
  | tAsr (rs rd : LoReg)
  /-- `T_ADC` (R417). -/
  | tAdc (rs rd : LoReg)
  /-- `T_SBC` (R418). -/
  | tSbc (rs rd : LoReg)
  /-- `T_ROR` (R419). -/
  | tRor (rs rd : LoReg)
  /-- `T_TST` (R420). -/
  | tTst (rs rd : LoReg)
  /-- `T_NEG` (R421). -/
  | tNeg (rs rd : LoReg)
  /-- `T_CMP` (R422). -/
  | tCmp (rs rd : LoReg)
  /-- `T_CMN` (R423). -/
  | tCmn (rs rd : LoReg)
  /-- `T_ORR` (R424). -/
  | tOrr (rs rd : LoReg)
  /-- `T_MUL` (R425). -/
  | tMul (rs rd : LoReg)
  /-- `T_BIC` (R426). -/
  | tBic (rs rd : LoReg)
  /-- `T_MVN` (R427). -/
  | tMvn (rs rd : LoReg)
  /-- `T_ADD_hi` (R429). -/
  | tAddHi (d m : Reg)
  /-- `T_CMP_hi` (R430). -/
  | tCmpHi (d m : Reg)
  /-- `T_MOV_hi` (R431). -/
  | tMovHi (d m : Reg)
  /-- `T_BX` (R432). -/
  | tBx (h1 : Bool) (m : Reg)
  -- Thumb transfers (46_thumb_load_store.md) and formats 12 and 13
  /-- `T_LDR_pc` (R452). -/
  | tLdrPc (rd : LoReg) (off : BitVec 8)
  /-- `T_STR_reg` (R453). -/
  | tStrReg (ro rb rd : LoReg)
  /-- `T_STRH_reg` (R457). -/
  | tStrhReg (ro rb rd : LoReg)
  /-- `T_STRB_reg` (R454). -/
  | tStrbReg (ro rb rd : LoReg)
  /-- `T_LDSB_reg` (R459). -/
  | tLdsbReg (ro rb rd : LoReg)
  /-- `T_LDR_reg` (R455). -/
  | tLdrReg (ro rb rd : LoReg)
  /-- `T_LDRH_reg` (R458). -/
  | tLdrhReg (ro rb rd : LoReg)
  /-- `T_LDRB_reg` (R456). -/
  | tLdrbReg (ro rb rd : LoReg)
  /-- `T_LDSH_reg` (R460). -/
  | tLdshReg (ro rb rd : LoReg)
  /-- `T_STR_imm` (R461). -/
  | tStrImm (off : BitVec 5) (rb rd : LoReg)
  /-- `T_LDR_imm` (R462). -/
  | tLdrImm (off : BitVec 5) (rb rd : LoReg)
  /-- `T_STRB_imm` (R463). -/
  | tStrbImm (off : BitVec 5) (rb rd : LoReg)
  /-- `T_LDRB_imm` (R464). -/
  | tLdrbImm (off : BitVec 5) (rb rd : LoReg)
  /-- `T_STRH_imm` (R465). -/
  | tStrhImm (off : BitVec 5) (rb rd : LoReg)
  /-- `T_LDRH_imm` (R466). -/
  | tLdrhImm (off : BitVec 5) (rb rd : LoReg)
  /-- `T_STR_sp` (R467). -/
  | tStrSp (rd : LoReg) (off : BitVec 8)
  /-- `T_LDR_sp` (R468). -/
  | tLdrSp (rd : LoReg) (off : BitVec 8)
  /-- `T_ADD_pc` (R433). -/
  | tAddPc (rd : LoReg) (off : BitVec 8)
  /-- `T_ADD_sp` (R434). -/
  | tAddSp (rd : LoReg) (off : BitVec 8)
  /-- `T_ADD_sp_imm` (R435). -/
  | tAddSpImm (s : Bool) (off : BitVec 7)
  /-- `T_PUSH` (R470). -/
  | tPush (r : Bool) (list : BitVec 8)
  /-- `T_POP` (R471). -/
  | tPop (r : Bool) (list : BitVec 8)
  /-- `T_UNDEF_1011` (R390). -/
  | tUndef1011
  /-- `T_STMIA` (R472). -/
  | tStmia (rb : LoReg) (list : BitVec 8)
  /-- `T_LDMIA` (R473). -/
  | tLdmia (rb : LoReg) (list : BitVec 8)
  -- Thumb branches and SWI (47_thumb_branch.md)
  /-- `T_SWI` (R501). -/
  | tSwi (comment : BitVec 8)
  /-- `T_UNDEF_DE` (R390). -/
  | tUndefDe
  /-- `T_B_cond` (R500). -/
  | tBCond (c : Cond) (off : BitVec 8)
  /-- `T_B` (R502). -/
  | tB (off : BitVec 11)
  /-- `T_UNDEF_E8` (R390). -/
  | tUndefE8
  /-- `T_BL_hi` (R510). -/
  | tBlHi (off : BitVec 11)
  /-- `T_BL_lo` (R511). -/
  | tBlLo (off : BitVec 11)
  deriving DecidableEq, Repr

/-- The mnemonic of an instruction's row in spec/opcode_table.json. -/
def Instr.mnemonic : Instr → String
  | .mul .. => "MUL"
  | .mla .. => "MLA"
  | .undefMul .. => "UNDEF_mul"
  | .umull .. => "UMULL"
  | .umlal .. => "UMLAL"
  | .smull .. => "SMULL"
  | .smlal .. => "SMLAL"
  | .swp .. => "SWP"
  | .swpb .. => "SWPB"
  | .undefSwp .. => "UNDEF_swp"
  | .strhReg .. => "STRH_reg"
  | .strhImm .. => "STRH_imm"
  | .ldrhReg .. => "LDRH_reg"
  | .ldrhImm .. => "LDRH_imm"
  | .ldrsbReg .. => "LDRSB_reg"
  | .ldrsbImm .. => "LDRSB_imm"
  | .ldrshReg .. => "LDRSH_reg"
  | .ldrshImm .. => "LDRSH_imm"
  | .undefHalfwordStore .. => "UNDEF_halfword_store"
  | .mrs .. => "MRS"
  | .msrReg .. => "MSR_reg"
  | .bx .. => "BX"
  | .undefMisc .. => "UNDEF_misc"
  | .msrImm .. => "MSR_imm"
  | .undefImmCmp .. => "UNDEF_imm_cmp"
  | .andImm .. => "AND_imm"
  | .andImmShift .. => "AND_imm_shift"
  | .andRegShift .. => "AND_reg_shift"
  | .eorImm .. => "EOR_imm"
  | .eorImmShift .. => "EOR_imm_shift"
  | .eorRegShift .. => "EOR_reg_shift"
  | .subImm .. => "SUB_imm"
  | .subImmShift .. => "SUB_imm_shift"
  | .subRegShift .. => "SUB_reg_shift"
  | .rsbImm .. => "RSB_imm"
  | .rsbImmShift .. => "RSB_imm_shift"
  | .rsbRegShift .. => "RSB_reg_shift"
  | .addImm .. => "ADD_imm"
  | .addImmShift .. => "ADD_imm_shift"
  | .addRegShift .. => "ADD_reg_shift"
  | .adcImm .. => "ADC_imm"
  | .adcImmShift .. => "ADC_imm_shift"
  | .adcRegShift .. => "ADC_reg_shift"
  | .sbcImm .. => "SBC_imm"
  | .sbcImmShift .. => "SBC_imm_shift"
  | .sbcRegShift .. => "SBC_reg_shift"
  | .rscImm .. => "RSC_imm"
  | .rscImmShift .. => "RSC_imm_shift"
  | .rscRegShift .. => "RSC_reg_shift"
  | .tstImm .. => "TST_imm"
  | .tstImmShift .. => "TST_imm_shift"
  | .tstRegShift .. => "TST_reg_shift"
  | .teqImm .. => "TEQ_imm"
  | .teqImmShift .. => "TEQ_imm_shift"
  | .teqRegShift .. => "TEQ_reg_shift"
  | .cmpImm .. => "CMP_imm"
  | .cmpImmShift .. => "CMP_imm_shift"
  | .cmpRegShift .. => "CMP_reg_shift"
  | .cmnImm .. => "CMN_imm"
  | .cmnImmShift .. => "CMN_imm_shift"
  | .cmnRegShift .. => "CMN_reg_shift"
  | .orrImm .. => "ORR_imm"
  | .orrImmShift .. => "ORR_imm_shift"
  | .orrRegShift .. => "ORR_reg_shift"
  | .movImm .. => "MOV_imm"
  | .movImmShift .. => "MOV_imm_shift"
  | .movRegShift .. => "MOV_reg_shift"
  | .bicImm .. => "BIC_imm"
  | .bicImmShift .. => "BIC_imm_shift"
  | .bicRegShift .. => "BIC_reg_shift"
  | .mvnImm .. => "MVN_imm"
  | .mvnImmShift .. => "MVN_imm_shift"
  | .mvnRegShift .. => "MVN_reg_shift"
  | .ldrtImm .. => "LDRT_imm"
  | .ldrtReg .. => "LDRT_reg"
  | .ldrbtImm .. => "LDRBT_imm"
  | .ldrbtReg .. => "LDRBT_reg"
  | .strtImm .. => "STRT_imm"
  | .strtReg .. => "STRT_reg"
  | .strbtImm .. => "STRBT_imm"
  | .strbtReg .. => "STRBT_reg"
  | .ldrImm .. => "LDR_imm"
  | .ldrReg .. => "LDR_reg"
  | .ldrbImm .. => "LDRB_imm"
  | .ldrbReg .. => "LDRB_reg"
  | .strImm .. => "STR_imm"
  | .strReg .. => "STR_reg"
  | .strbImm .. => "STRB_imm"
  | .strbReg .. => "STRB_reg"
  | .undefMedia .. => "UNDEF_media"
  | .ldmRet .. => "LDM_ret"
  | .ldmUser .. => "LDM_user"
  | .stmUser .. => "STM_user"
  | .ldm .. => "LDM"
  | .stm .. => "STM"
  | .b .. => "B"
  | .bl .. => "BL"
  | .coprocXfer .. => "COPROC_xfer"
  | .coprocOp .. => "COPROC_op"
  | .swi .. => "SWI"
  | .tLslImm .. => "T_LSL_imm"
  | .tLsrImm .. => "T_LSR_imm"
  | .tAsrImm .. => "T_ASR_imm"
  | .tAddReg .. => "T_ADD_reg"
  | .tSubReg .. => "T_SUB_reg"
  | .tAddImm3 .. => "T_ADD_imm3"
  | .tSubImm3 .. => "T_SUB_imm3"
  | .tMovImm .. => "T_MOV_imm"
  | .tCmpImm .. => "T_CMP_imm"
  | .tAddImm8 .. => "T_ADD_imm8"
  | .tSubImm8 .. => "T_SUB_imm8"
  | .tAnd .. => "T_AND"
  | .tEor .. => "T_EOR"
  | .tLsl .. => "T_LSL"
  | .tLsr .. => "T_LSR"
  | .tAsr .. => "T_ASR"
  | .tAdc .. => "T_ADC"
  | .tSbc .. => "T_SBC"
  | .tRor .. => "T_ROR"
  | .tTst .. => "T_TST"
  | .tNeg .. => "T_NEG"
  | .tCmp .. => "T_CMP"
  | .tCmn .. => "T_CMN"
  | .tOrr .. => "T_ORR"
  | .tMul .. => "T_MUL"
  | .tBic .. => "T_BIC"
  | .tMvn .. => "T_MVN"
  | .tAddHi .. => "T_ADD_hi"
  | .tCmpHi .. => "T_CMP_hi"
  | .tMovHi .. => "T_MOV_hi"
  | .tBx .. => "T_BX"
  | .tLdrPc .. => "T_LDR_pc"
  | .tStrReg .. => "T_STR_reg"
  | .tStrhReg .. => "T_STRH_reg"
  | .tStrbReg .. => "T_STRB_reg"
  | .tLdsbReg .. => "T_LDSB_reg"
  | .tLdrReg .. => "T_LDR_reg"
  | .tLdrhReg .. => "T_LDRH_reg"
  | .tLdrbReg .. => "T_LDRB_reg"
  | .tLdshReg .. => "T_LDSH_reg"
  | .tStrImm .. => "T_STR_imm"
  | .tLdrImm .. => "T_LDR_imm"
  | .tStrbImm .. => "T_STRB_imm"
  | .tLdrbImm .. => "T_LDRB_imm"
  | .tStrhImm .. => "T_STRH_imm"
  | .tLdrhImm .. => "T_LDRH_imm"
  | .tStrSp .. => "T_STR_sp"
  | .tLdrSp .. => "T_LDR_sp"
  | .tAddPc .. => "T_ADD_pc"
  | .tAddSp .. => "T_ADD_sp"
  | .tAddSpImm .. => "T_ADD_sp_imm"
  | .tPush .. => "T_PUSH"
  | .tPop .. => "T_POP"
  | .tUndef1011 => "T_UNDEF_1011"
  | .tStmia .. => "T_STMIA"
  | .tLdmia .. => "T_LDMIA"
  | .tSwi .. => "T_SWI"
  | .tUndefDe => "T_UNDEF_DE"
  | .tBCond .. => "T_B_cond"
  | .tB .. => "T_B"
  | .tUndefE8 => "T_UNDEF_E8"
  | .tBlHi .. => "T_BL_hi"
  | .tBlLo .. => "T_BL_lo"

/-- Whether the instruction belongs to the 32-bit encoding (R140). -/
def Instr.isArm : Instr → Bool
  | .mul .. | .mla .. | .undefMul .. | .umull .. | .umlal .. | .smull .. | .smlal .. | .swp .. | .swpb .. | .undefSwp ..
  | .strhReg .. | .strhImm .. | .ldrhReg .. | .ldrhImm .. | .ldrsbReg .. | .ldrsbImm .. | .ldrshReg .. | .ldrshImm ..
  | .undefHalfwordStore .. | .mrs .. | .msrReg .. | .bx .. | .undefMisc .. | .msrImm .. | .undefImmCmp .. | .andImm ..
  | .andImmShift .. | .andRegShift .. | .eorImm .. | .eorImmShift .. | .eorRegShift .. | .subImm .. | .subImmShift ..
  | .subRegShift .. | .rsbImm .. | .rsbImmShift .. | .rsbRegShift .. | .addImm .. | .addImmShift .. | .addRegShift ..
  | .adcImm .. | .adcImmShift .. | .adcRegShift .. | .sbcImm .. | .sbcImmShift .. | .sbcRegShift .. | .rscImm ..
  | .rscImmShift .. | .rscRegShift .. | .tstImm .. | .tstImmShift .. | .tstRegShift .. | .teqImm .. | .teqImmShift ..
  | .teqRegShift .. | .cmpImm .. | .cmpImmShift .. | .cmpRegShift .. | .cmnImm .. | .cmnImmShift .. | .cmnRegShift ..
  | .orrImm .. | .orrImmShift .. | .orrRegShift .. | .movImm .. | .movImmShift .. | .movRegShift .. | .bicImm ..
  | .bicImmShift .. | .bicRegShift .. | .mvnImm .. | .mvnImmShift .. | .mvnRegShift .. | .ldrtImm .. | .ldrtReg ..
  | .ldrbtImm .. | .ldrbtReg .. | .strtImm .. | .strtReg .. | .strbtImm .. | .strbtReg .. | .ldrImm .. | .ldrReg ..
  | .ldrbImm .. | .ldrbReg .. | .strImm .. | .strReg .. | .strbImm .. | .strbReg .. | .undefMedia .. | .ldmRet ..
  | .ldmUser .. | .stmUser .. | .ldm .. | .stm .. | .b .. | .bl .. | .coprocXfer .. | .coprocOp .. | .swi .. => true
  | .tLslImm .. | .tLsrImm .. | .tAsrImm .. | .tAddReg .. | .tSubReg .. | .tAddImm3 .. | .tSubImm3 .. | .tMovImm ..
  | .tCmpImm .. | .tAddImm8 .. | .tSubImm8 .. | .tAnd .. | .tEor .. | .tLsl .. | .tLsr .. | .tAsr .. | .tAdc .. | .tSbc ..
  | .tRor .. | .tTst .. | .tNeg .. | .tCmp .. | .tCmn .. | .tOrr .. | .tMul .. | .tBic .. | .tMvn .. | .tAddHi ..
  | .tCmpHi .. | .tMovHi .. | .tBx .. | .tLdrPc .. | .tStrReg .. | .tStrhReg .. | .tStrbReg .. | .tLdsbReg .. | .tLdrReg ..
  | .tLdrhReg .. | .tLdrbReg .. | .tLdshReg .. | .tStrImm .. | .tLdrImm .. | .tStrbImm .. | .tLdrbImm .. | .tStrhImm ..
  | .tLdrhImm .. | .tStrSp .. | .tLdrSp .. | .tAddPc .. | .tAddSp .. | .tAddSpImm .. | .tPush .. | .tPop .. | .tUndef1011
  | .tStmia .. | .tLdmia .. | .tSwi .. | .tUndefDe | .tBCond .. | .tB .. | .tUndefE8 | .tBlHi .. | .tBlLo .. => false

end Sys2Proof
end

