-- ==== Sys2Proof/WellFormed.lean ====
section
/-! DEFINITION. Which terms of `Instr` are instructions: the side conditions between fields that the types do not carry. -/

namespace Sys2Proof

/-- The single transfers' index bits: P = 0 with W = 1 is the T form's row (30_encoding.md R153). -/
def Idx.notT (m : Idx) : Bool := m.p || !m.w

/-- Well-formed instructions.
An ordinary single transfer is not a T form (R153); `LDM_ret` has R15 in its list and `LDM_user` has not
(43_arm_load_store.md R356, R357); the Thumb conditional branch has neither AL nor NV (47_thumb_branch.md R500). -/
def Instr.wf : Instr → Bool
  | .ldrImm _ m _ _ _ | .ldrReg _ m _ _ _ | .ldrbImm _ m _ _ _ | .ldrbReg _ m _ _ _ | .strImm _ m _ _ _ | .strReg _ m _ _ _
  | .strbImm _ m _ _ _ | .strbReg _ m _ _ _ => m.notT
  | .ldmRet _ _ _ list => list.getLsbD 15
  | .ldmUser _ _ _ list => !list.getLsbD 15
  | .tBCond c _ => decide (c ≠ .al) && decide (c ≠ .nv)
  | .mul .. | .mla .. | .undefMul .. | .umull .. | .umlal .. | .smull .. | .smlal .. | .swp .. | .swpb .. | .undefSwp ..
  | .strhReg .. | .strhImm .. | .ldrhReg .. | .ldrhImm .. | .ldrsbReg .. | .ldrsbImm .. | .ldrshReg .. | .ldrshImm ..
  | .undefHalfwordStore .. | .mrs .. | .msrReg .. | .bx .. | .undefMisc .. | .msrImm .. | .undefImmCmp .. | .andImm ..
  | .andImmShift .. | .andRegShift .. | .eorImm .. | .eorImmShift .. | .eorRegShift .. | .subImm .. | .subImmShift ..
  | .subRegShift .. | .rsbImm .. | .rsbImmShift .. | .rsbRegShift .. | .addImm .. | .addImmShift .. | .addRegShift ..
  | .adcImm .. | .adcImmShift .. | .adcRegShift .. | .sbcImm .. | .sbcImmShift .. | .sbcRegShift .. | .rscImm ..
  | .rscImmShift .. | .rscRegShift .. | .tstImm .. | .tstImmShift .. | .tstRegShift .. | .teqImm .. | .teqImmShift ..
  | .teqRegShift .. | .cmpImm .. | .cmpImmShift .. | .cmpRegShift .. | .cmnImm .. | .cmnImmShift .. | .cmnRegShift ..
  | .orrImm .. | .orrImmShift .. | .orrRegShift .. | .movImm .. | .movImmShift .. | .movRegShift .. | .bicImm ..
  | .bicImmShift .. | .bicRegShift .. | .mvnImm .. | .mvnImmShift .. | .mvnRegShift .. | .ldrtImm .. | .ldrtReg ..
  | .ldrbtImm .. | .ldrbtReg .. | .strtImm .. | .strtReg .. | .strbtImm .. | .strbtReg .. | .undefMedia .. | .stmUser ..
  | .ldm .. | .stm .. | .b .. | .bl .. | .coprocXfer .. | .coprocOp .. | .swi .. | .tLslImm .. | .tLsrImm .. | .tAsrImm ..
  | .tAddReg .. | .tSubReg .. | .tAddImm3 .. | .tSubImm3 .. | .tMovImm .. | .tCmpImm .. | .tAddImm8 .. | .tSubImm8 ..
  | .tAnd .. | .tEor .. | .tLsl .. | .tLsr .. | .tAsr .. | .tAdc .. | .tSbc .. | .tRor .. | .tTst .. | .tNeg .. | .tCmp ..
  | .tCmn .. | .tOrr .. | .tMul .. | .tBic .. | .tMvn .. | .tAddHi .. | .tCmpHi .. | .tMovHi .. | .tBx .. | .tLdrPc ..
  | .tStrReg .. | .tStrhReg .. | .tStrbReg .. | .tLdsbReg .. | .tLdrReg .. | .tLdrhReg .. | .tLdrbReg .. | .tLdshReg ..
  | .tStrImm .. | .tLdrImm .. | .tStrbImm .. | .tLdrbImm .. | .tStrhImm .. | .tLdrhImm .. | .tStrSp .. | .tLdrSp ..
  | .tAddPc .. | .tAddSp .. | .tAddSpImm .. | .tPush .. | .tPop .. | .tUndef1011 | .tStmia .. | .tLdmia .. | .tSwi ..
  | .tUndefDe | .tB .. | .tUndefE8 | .tBlHi .. | .tBlLo .. => true

end Sys2Proof
end

