-- ==== Sys2Proof/Decode.lean ====
section
/-! DEFINITION. The two decode tables (30_encoding.md R150, R165), total on every word and halfword, and after them the encoder. -/

namespace Sys2Proof

/-! ## Fields -/

/-- A four-bit register field whose lowest bit is `lo` (R142). -/
def regField (w : Word) (lo : Nat) : Reg := (w.extractLsb' lo 4).toFin

/-- A three-bit low-register field whose lowest bit is `lo` (R155). -/
def lowField (h : Half) (lo : Nat) : LoReg := (h.extractLsb' lo 3).toFin

/-- The condition a four-bit code names (40_shifter_alu_cond.md R230). -/
def Cond.ofBits (b : BitVec 4) : Cond :=
  match b with
  | 0#4 => .eq
  | 1#4 => .ne
  | 2#4 => .cs
  | 3#4 => .cc
  | 4#4 => .mi
  | 5#4 => .pl
  | 6#4 => .vs
  | 7#4 => .vc
  | 8#4 => .hi
  | 9#4 => .ls
  | 10#4 => .ge
  | 11#4 => .lt
  | 12#4 => .gt
  | 13#4 => .le
  | 14#4 => .al
  | _ => .nv

/-- The shift type a two-bit code names (R144). -/
def ShiftType.ofBits (b : BitVec 2) : ShiftType :=
  match b with
  | 0#2 => .lsl
  | 1#2 => .lsr
  | 2#2 => .asr
  | _ => .ror

/-- The rotated immediate of a word (R145). -/
def rotImmField (w : Word) : RotImm := ⟨w.extractLsb' 8 4, w.extractLsb' 0 8⟩

/-- The register shifted by an immediate of a word (R146). -/
def immShiftField (w : Word) : ImmShift :=
  ⟨regField w 0, ShiftType.ofBits (w.extractLsb' 5 2), w.extractLsb' 7 5⟩

/-- The register shifted by a register of a word (R146). -/
def regShiftField (w : Word) : RegShift :=
  ⟨regField w 0, ShiftType.ofBits (w.extractLsb' 5 2), regField w 8⟩

/-- The P, U and W bits of a word (R142). -/
def idxField (w : Word) : Idx := ⟨w.getLsbD 24, w.getLsbD 23, w.getLsbD 21⟩

/-! ## The 32-bit table (R150) -/

/-- `hi[7:5] = 000`, `lo = 1001`: multiplies and swaps. -/
def decodeMulSwp (c : Cond) (w : Word) : Instr :=
  let s := w.getLsbD 20
  if w.getLsbD 24 = false then
    match w.extractLsb' 21 3 with
    | 0#3 => .mul c s (regField w 16) (regField w 8) (regField w 0)
    | 1#3 => .mla c s (regField w 16) (regField w 12) (regField w 8) (regField w 0)
    | 2#3 => .undefMul c
    | 3#3 => .undefMul c
    | 4#3 => .umull c s (regField w 16) (regField w 12) (regField w 8) (regField w 0)
    | 5#3 => .umlal c s (regField w 16) (regField w 12) (regField w 8) (regField w 0)
    | 6#3 => .smull c s (regField w 16) (regField w 12) (regField w 8) (regField w 0)
    | _ => .smlal c s (regField w 16) (regField w 12) (regField w 8) (regField w 0)
  else
    match w.extractLsb' 20 4 with
    | 0#4 => .swp c (regField w 16) (regField w 12) (regField w 0)
    | 4#4 => .swpb c (regField w 16) (regField w 12) (regField w 0)
    | _ => .undefSwp c

/-- `hi[7:5] = 000`, `lo[3] = lo[0] = 1`, `lo ≠ 1001`: halfword and signed transfers. -/
def decodeHalf (c : Cond) (w : Word) : Instr :=
  let m := idxField w
  let rn := regField w 16
  let rd := regField w 12
  let off := w.extractLsb' 8 4 ++ w.extractLsb' 0 4
  let rm := regField w 0
  if w.getLsbD 20 then
    match w.extractLsb' 5 2 with
    | 1#2 => if w.getLsbD 22 then .ldrhImm c m rn rd off else .ldrhReg c m rn rd rm
    | 2#2 => if w.getLsbD 22 then .ldrsbImm c m rn rd off else .ldrsbReg c m rn rd rm
    | _ => if w.getLsbD 22 then .ldrshImm c m rn rd off else .ldrshReg c m rn rd rm
  else
    match w.extractLsb' 5 2 with
    | 1#2 => if w.getLsbD 22 then .strhImm c m rn rd off else .strhReg c m rn rd rm
    | _ => .undefHalfwordStore c

/-- `hi[7:3] = 00010`, `hi[0] = 0`: MRS, MSR, BX and the undefined compare space. -/
def decodeMisc (c : Cond) (w : Word) : Instr :=
  match w.extractLsb' 4 4 with
  | 0#4 =>
    if w.getLsbD 21 then .msrReg c (w.getLsbD 22) (w.extractLsb' 16 4) (regField w 0)
    else .mrs c (w.getLsbD 22) (regField w 12)
  | 1#4 =>
    match w.extractLsb' 21 2 with
    | 1#2 => .bx c (regField w 0)
    | _ => .undefMisc c
  | _ => .undefMisc c

/-- Data processing, immediate form, by opcode (R143). -/
def decodeDpImm (c : Cond) (w : Word) : Instr :=
  let s := w.getLsbD 20
  let rn := regField w 16
  let rd := regField w 12
  let o := rotImmField w
  match w.extractLsb' 21 4 with
  | 0#4 => .andImm c s rn rd o
  | 1#4 => .eorImm c s rn rd o
  | 2#4 => .subImm c s rn rd o
  | 3#4 => .rsbImm c s rn rd o
  | 4#4 => .addImm c s rn rd o
  | 5#4 => .adcImm c s rn rd o
  | 6#4 => .sbcImm c s rn rd o
  | 7#4 => .rscImm c s rn rd o
  | 8#4 => .tstImm c rn o
  | 9#4 => .teqImm c rn o
  | 10#4 => .cmpImm c rn o
  | 11#4 => .cmnImm c rn o
  | 12#4 => .orrImm c s rn rd o
  | 13#4 => .movImm c s rd o
  | 14#4 => .bicImm c s rn rd o
  | _ => .mvnImm c s rd o

/-- Data processing, immediate-shift form, by opcode (R143). -/
def decodeDpImmShift (c : Cond) (w : Word) : Instr :=
  let s := w.getLsbD 20
  let rn := regField w 16
  let rd := regField w 12
  let o := immShiftField w
  match w.extractLsb' 21 4 with
  | 0#4 => .andImmShift c s rn rd o
  | 1#4 => .eorImmShift c s rn rd o
  | 2#4 => .subImmShift c s rn rd o
  | 3#4 => .rsbImmShift c s rn rd o
  | 4#4 => .addImmShift c s rn rd o
  | 5#4 => .adcImmShift c s rn rd o
  | 6#4 => .sbcImmShift c s rn rd o
  | 7#4 => .rscImmShift c s rn rd o
  | 8#4 => .tstImmShift c rn o
  | 9#4 => .teqImmShift c rn o
  | 10#4 => .cmpImmShift c rn o
  | 11#4 => .cmnImmShift c rn o
  | 12#4 => .orrImmShift c s rn rd o
  | 13#4 => .movImmShift c s rd o
  | 14#4 => .bicImmShift c s rn rd o
  | _ => .mvnImmShift c s rd o

/-- Data processing, register-shift form, by opcode (R143). -/
def decodeDpRegShift (c : Cond) (w : Word) : Instr :=
  let s := w.getLsbD 20
  let rn := regField w 16
  let rd := regField w 12
  let o := regShiftField w
  match w.extractLsb' 21 4 with
  | 0#4 => .andRegShift c s rn rd o
  | 1#4 => .eorRegShift c s rn rd o
  | 2#4 => .subRegShift c s rn rd o
  | 3#4 => .rsbRegShift c s rn rd o
  | 4#4 => .addRegShift c s rn rd o
  | 5#4 => .adcRegShift c s rn rd o
  | 6#4 => .sbcRegShift c s rn rd o
  | 7#4 => .rscRegShift c s rn rd o
  | 8#4 => .tstRegShift c rn o
  | 9#4 => .teqRegShift c rn o
  | 10#4 => .cmpRegShift c rn o
  | 11#4 => .cmnRegShift c rn o
  | 12#4 => .orrRegShift c s rn rd o
  | 13#4 => .movRegShift c s rd o
  | 14#4 => .bicRegShift c s rn rd o
  | _ => .mvnRegShift c s rd o

/-- Single transfers, given the two constructors' operand (R142): the T forms are P = 0 with W = 1 (R153). -/
def decodeSingleImm (c : Cond) (w : Word) : Instr :=
  let m := idxField w
  let rn := regField w 16
  let rd := regField w 12
  let off := w.extractLsb' 0 12
  if !m.p && m.w then
    if w.getLsbD 20 then (if w.getLsbD 22 then .ldrbtImm c m.u rn rd off else .ldrtImm c m.u rn rd off)
    else (if w.getLsbD 22 then .strbtImm c m.u rn rd off else .strtImm c m.u rn rd off)
  else
    if w.getLsbD 20 then (if w.getLsbD 22 then .ldrbImm c m rn rd off else .ldrImm c m rn rd off)
    else (if w.getLsbD 22 then .strbImm c m rn rd off else .strImm c m rn rd off)

/-- Single transfers with a scaled register offset. -/
def decodeSingleReg (c : Cond) (w : Word) : Instr :=
  let m := idxField w
  let rn := regField w 16
  let rd := regField w 12
  let o := immShiftField w
  if !m.p && m.w then
    if w.getLsbD 20 then (if w.getLsbD 22 then .ldrbtReg c m.u rn rd o else .ldrtReg c m.u rn rd o)
    else (if w.getLsbD 22 then .strbtReg c m.u rn rd o else .strtReg c m.u rn rd o)
  else
    if w.getLsbD 20 then (if w.getLsbD 22 then .ldrbReg c m rn rd o else .ldrReg c m rn rd o)
    else (if w.getLsbD 22 then .strbReg c m rn rd o else .strReg c m rn rd o)

/-- Block transfers: S and R15 in the list choose the row (R153). -/
def decodeBlock (c : Cond) (w : Word) : Instr :=
  let m := idxField w
  let rn := regField w 16
  let list := w.extractLsb' 0 16
  if w.getLsbD 20 then
    if w.getLsbD 22 then (if w.getLsbD 15 then .ldmRet c m rn list else .ldmUser c m rn list)
    else .ldm c m rn list
  else (if w.getLsbD 22 then .stmUser c m rn list else .stm c m rn list)

/-- The instruction a 32-bit word is (R150). Every word is one: the undefined spaces are rows of the table too. -/
def decodeArm (w : Word) : Instr :=
  let c := Cond.ofBits (w.extractLsb' 28 4)
  match w.extractLsb' 25 3 with
  | 0#3 =>
    if w.extractLsb' 4 4 = 9#4 then decodeMulSwp c w
    else if w.getLsbD 7 && w.getLsbD 4 then decodeHalf c w
    else if w.extractLsb' 23 2 = 2#2 ∧ w.getLsbD 20 = false then decodeMisc c w
    else if w.getLsbD 4 then decodeDpRegShift c w
    else decodeDpImmShift c w
  | 1#3 =>
    if w.extractLsb' 23 2 = 2#2 ∧ w.getLsbD 20 = false then
      if w.getLsbD 21 then .msrImm c (w.getLsbD 22) (w.extractLsb' 16 4) (rotImmField w) else .undefImmCmp c
    else decodeDpImm c w
  | 2#3 => decodeSingleImm c w
  | 3#3 => if w.getLsbD 4 then .undefMedia c else decodeSingleReg c w
  | 4#3 => decodeBlock c w
  | 5#3 => if w.getLsbD 24 then .bl c (w.extractLsb' 0 24) else .b c (w.extractLsb' 0 24)
  | 6#3 => .coprocXfer c
  | _ => if w.getLsbD 24 then .swi c (w.extractLsb' 0 24) else .coprocOp c

/-! ## The 16-bit table (R165) -/

/-- The format 4 sub-table (R156, R166). -/
def decodeThumbAlu (h : Half) : Instr :=
  let rs := lowField h 3
  let rd := lowField h 0
  match h.extractLsb' 6 4 with
  | 0#4 => .tAnd rs rd
  | 1#4 => .tEor rs rd
  | 2#4 => .tLsl rs rd
  | 3#4 => .tLsr rs rd
  | 4#4 => .tAsr rs rd
  | 5#4 => .tAdc rs rd
  | 6#4 => .tSbc rs rd
  | 7#4 => .tRor rs rd
  | 8#4 => .tTst rs rd
  | 9#4 => .tNeg rs rd
  | 10#4 => .tCmp rs rd
  | 11#4 => .tCmn rs rd
  | 12#4 => .tOrr rs rd
  | 13#4 => .tMul rs rd
  | 14#4 => .tBic rs rd
  | _ => .tMvn rs rd

/-- Format 5: hi-register operations and BX (R155, 45_thumb_alu.md R428). -/
def decodeThumbHi (h : Half) : Instr :=
  let d : Reg := (h.extractLsb' 7 1 ++ h.extractLsb' 0 3).toFin
  let m : Reg := (h.extractLsb' 3 4).toFin
  match h.extractLsb' 8 2 with
  | 0#2 => .tAddHi d m
  | 1#2 => .tCmpHi d m
  | 2#2 => .tMovHi d m
  | _ => .tBx (h.getLsbD 7) m

/-- Formats 7 and 8: register offset. -/
def decodeThumbRegOffset (h : Half) : Instr :=
  let ro := lowField h 6
  let rb := lowField h 3
  let rd := lowField h 0
  match h.extractLsb' 9 3 with
  | 0#3 => .tStrReg ro rb rd
  | 1#3 => .tStrhReg ro rb rd
  | 2#3 => .tStrbReg ro rb rd
  | 3#3 => .tLdsbReg ro rb rd
  | 4#3 => .tLdrReg ro rb rd
  | 5#3 => .tLdrhReg ro rb rd
  | 6#3 => .tLdrbReg ro rb rd
  | _ => .tLdshReg ro rb rd

/-- `a = 1011`: formats 13 and 14 and the undefined rest. -/
def decodeThumb1011 (h : Half) : Instr :=
  if h.extractLsb' 8 4 = 0#4 then .tAddSpImm (h.getLsbD 7) (h.extractLsb' 0 7)
  else if h.extractLsb' 9 2 = 2#2 then
    if h.getLsbD 11 then .tPop (h.getLsbD 8) (h.extractLsb' 0 8) else .tPush (h.getLsbD 8) (h.extractLsb' 0 8)
  else .tUndef1011

/-- The instruction a 16-bit halfword is (R165). Every halfword is one. -/
def decodeThumb (h : Half) : Instr :=
  let off5 := h.extractLsb' 6 5
  let mid := lowField h 3
  let low := lowField h 0
  let top := lowField h 8
  let off8 := h.extractLsb' 0 8
  match h.extractLsb' 12 4 with
  | 0#4 => if h.getLsbD 11 then .tLsrImm off5 mid low else .tLslImm off5 mid low
  | 1#4 =>
    if h.getLsbD 11 then
      match h.extractLsb' 9 2 with
      | 0#2 => .tAddReg (lowField h 6) mid low
      | 1#2 => .tSubReg (lowField h 6) mid low
      | 2#2 => .tAddImm3 (h.extractLsb' 6 3) mid low
      | _ => .tSubImm3 (h.extractLsb' 6 3) mid low
    else .tAsrImm off5 mid low
  | 2#4 => if h.getLsbD 11 then .tCmpImm top off8 else .tMovImm top off8
  | 3#4 => if h.getLsbD 11 then .tSubImm8 top off8 else .tAddImm8 top off8
  | 4#4 =>
    if h.getLsbD 11 then .tLdrPc top off8
    else if h.getLsbD 10 then decodeThumbHi h
    else decodeThumbAlu h
  | 5#4 => decodeThumbRegOffset h
  | 6#4 => if h.getLsbD 11 then .tLdrImm off5 mid low else .tStrImm off5 mid low
  | 7#4 => if h.getLsbD 11 then .tLdrbImm off5 mid low else .tStrbImm off5 mid low
  | 8#4 => if h.getLsbD 11 then .tLdrhImm off5 mid low else .tStrhImm off5 mid low
  | 9#4 => if h.getLsbD 11 then .tLdrSp top off8 else .tStrSp top off8
  | 10#4 => if h.getLsbD 11 then .tAddSp top off8 else .tAddPc top off8
  | 11#4 => decodeThumb1011 h
  | 12#4 => if h.getLsbD 11 then .tLdmia top off8 else .tStmia top off8
  | 13#4 =>
    if h.extractLsb' 8 4 = 15#4 then .tSwi off8
    else if h.extractLsb' 8 4 = 14#4 then .tUndefDe
    else .tBCond (Cond.ofBits (h.extractLsb' 8 4)) off8
  | 14#4 => if h.getLsbD 11 then .tUndefE8 else .tB (h.extractLsb' 0 11)
  | _ => if h.getLsbD 11 then .tBlLo (h.extractLsb' 0 11) else .tBlHi (h.extractLsb' 0 11)

/-! ## Words, bytes and the host's numbering -/

/-- An instruction as it stands in memory: a word of the 32-bit encoding or a halfword of the 16-bit one (R140). -/
inductive Code where
  | arm (w : Word)
  | thumb (h : Half)
  deriving DecidableEq, Repr

/-- The instruction a code is. -/
def Code.decode : Code → Instr
  | .arm w => decodeArm w
  | .thumb h => decodeThumb h

/-- The bytes of a code, lowest address first: little-endian (20_memory.md R81). -/
def Code.bytes : Code → List Byte
  | .arm w => [w.extractLsb' 0 8, w.extractLsb' 8 8, w.extractLsb' 16 8, w.extractLsb' 24 8]
  | .thumb h => [h.extractLsb' 0 8, h.extractLsb' 8 8]

/-- Why some bytes are no instruction: there are too few of them, or more than one instruction takes. -/
inductive DecodeError where
  | tooShort
  | tooLong
  deriving DecidableEq, Repr

/-- The code some bytes hold, for the decode table the T bit selects (R140). -/
def codeOfBytes (thumb : Bool) (bs : List Byte) : Except DecodeError Code :=
  match thumb, bs with
  | false, [b0, b1, b2, b3] => .ok (.arm (b3 ++ b2 ++ b1 ++ b0))
  | true, [b0, b1] => .ok (.thumb (b1 ++ b0))
  | false, _ :: _ :: _ :: _ :: _ :: _ => .error .tooLong
  | true, _ :: _ :: _ :: _ => .error .tooLong
  | _, _ => .error .tooShort

/-- The instruction some bytes are: total on any bytes. -/
def decodeBytes (thumb : Bool) (bs : List Byte) : Except DecodeError Instr :=
  (codeOfBytes thumb bs).map Code.decode

/-- The host's numbering of an instruction's bits, as a code: 32 bits are a word, 16 a halfword. -/
def codeOfTable (nbits w : Nat) : Option Code :=
  if nbits = 32 then some (.arm (BitVec.ofNat 32 w))
  else if nbits = 16 then some (.thumb (BitVec.ofNat 16 w))
  else none

/-- What the decoder reads from the bytes of an instruction whose bits are `w` (the host's fixed name). -/
def decodeTableWord (nbits w : Nat) : Option Instr :=
  match codeOfTable nbits w with
  | none => none
  | some c => (decodeBytes (decide (nbits = 16)) c.bytes).toOption

/-! ## The encoder -/

/-- The four-bit code of a condition (R230). -/
def Cond.bits : Cond → BitVec 4
  | .eq => 0
  | .ne => 1
  | .cs => 2
  | .cc => 3
  | .mi => 4
  | .pl => 5
  | .vs => 6
  | .vc => 7
  | .hi => 8
  | .ls => 9
  | .ge => 10
  | .lt => 11
  | .gt => 12
  | .le => 13
  | .al => 14
  | .nv => 15

/-- The two-bit code of a shift type (R144). -/
def ShiftType.bits : ShiftType → BitVec 2
  | .lsl => 0
  | .lsr => 1
  | .asr => 2
  | .ror => 3

/-- A register number as a four-bit field. -/
def regBits (r : Reg) : BitVec 4 := BitVec.ofFin r

/-- A low register number as a three-bit field. -/
def lowBits (r : LoReg) : BitVec 3 := BitVec.ofFin r

/-- One bit. -/
def bit (b : Bool) : BitVec 1 := BitVec.ofBool b

/-- A field of a word, its lowest bit at `lo` (R12, R142). -/
def at32 {n : Nat} (x : BitVec n) (lo : Nat) : Word := x.setWidth 32 <<< lo

/-- A field of a halfword, its lowest bit at `lo` (R12, R155). -/
def at16 {n : Nat} (x : BitVec n) (lo : Nat) : Half := x.setWidth 16 <<< lo

/-- R142, "DP, immediate". -/
def encDpImm (c : Cond) (op : BitVec 4) (s : Bool) (rn rd : Reg) (o : RotImm) : Word :=
  at32 c.bits 28 ||| at32 1#3 25 ||| at32 op 21 ||| at32 (bit s) 20 ||| at32 (regBits rn) 16 ||| at32 (regBits rd) 12 |||
    at32 o.rot 8 ||| at32 o.imm8 0

/-- R142, "DP, immediate shift". -/
def encDpImmShift (c : Cond) (op : BitVec 4) (s : Bool) (rn rd : Reg) (o : ImmShift) : Word :=
  at32 c.bits 28 ||| at32 op 21 ||| at32 (bit s) 20 ||| at32 (regBits rn) 16 ||| at32 (regBits rd) 12 |||
    at32 o.amt 7 ||| at32 o.ty.bits 5 ||| at32 (regBits o.rm) 0

/-- R142, "DP, register shift". -/
def encDpRegShift (c : Cond) (op : BitVec 4) (s : Bool) (rn rd : Reg) (o : RegShift) : Word :=
  at32 c.bits 28 ||| at32 op 21 ||| at32 (bit s) 20 ||| at32 (regBits rn) 16 ||| at32 (regBits rd) 12 |||
    at32 (regBits o.rs) 8 ||| at32 o.ty.bits 5 ||| at32 1#1 4 ||| at32 (regBits o.rm) 0

/-- R142, the multiply and swap formats: bits 27:21, then S and the four register fields, with 1001 in bits 7:4. -/
def encMul (c : Cond) (op : BitVec 7) (s : Bool) (r16 r12 r8 r0 : Reg) : Word :=
  at32 c.bits 28 ||| at32 op 21 ||| at32 (bit s) 20 ||| at32 (regBits r16) 16 ||| at32 (regBits r12) 12 |||
    at32 (regBits r8) 8 ||| at32 9#4 4 ||| at32 (regBits r0) 0

/-- R142, the P, U and W bits. -/
def encIdx (m : Idx) : Word := at32 (bit m.p) 24 ||| at32 (bit m.u) 23 ||| at32 (bit m.w) 21

/-- R142, "halfword, immediate offset" and "halfword, register offset": `i` is bit 22, `sh` bits 6:5. -/
def encHalf (c : Cond) (m : Idx) (i l : Bool) (rn rd : Reg) (sh : BitVec 2) (b11 b3 : BitVec 4) : Word :=
  at32 c.bits 28 ||| encIdx m ||| at32 (bit i) 22 ||| at32 (bit l) 20 ||| at32 (regBits rn) 16 ||| at32 (regBits rd) 12 |||
    at32 b11 8 ||| at32 1#1 7 ||| at32 sh 5 ||| at32 1#1 4 ||| at32 b3 0

/-- R142, "LDR/STR, immediate offset". -/
def encSingleImm (c : Cond) (m : Idx) (b l : Bool) (rn rd : Reg) (off : BitVec 12) : Word :=
  at32 c.bits 28 ||| at32 2#3 25 ||| encIdx m ||| at32 (bit b) 22 ||| at32 (bit l) 20 |||
    at32 (regBits rn) 16 ||| at32 (regBits rd) 12 ||| at32 off 0

/-- R142, "LDR/STR, register offset". -/
def encSingleReg (c : Cond) (m : Idx) (b l : Bool) (rn rd : Reg) (o : ImmShift) : Word :=
  at32 c.bits 28 ||| at32 3#3 25 ||| encIdx m ||| at32 (bit b) 22 ||| at32 (bit l) 20 |||
    at32 (regBits rn) 16 ||| at32 (regBits rd) 12 ||| at32 o.amt 7 ||| at32 o.ty.bits 5 ||| at32 (regBits o.rm) 0

/-- R142, "LDM/STM". -/
def encBlock (c : Cond) (m : Idx) (s l : Bool) (rn : Reg) (list : BitVec 16) : Word :=
  at32 c.bits 28 ||| at32 4#3 25 ||| encIdx m ||| at32 (bit s) 22 ||| at32 (bit l) 20 ||| at32 (regBits rn) 16 ||| at32 list 0

/-- R155, formats 1, 9 and 10: five opcode bits, a five-bit offset, two low registers. -/
def encT5 (op : BitVec 5) (off : BitVec 5) (mid low : LoReg) : Half :=
  at16 op 11 ||| at16 off 6 ||| at16 (lowBits mid) 3 ||| at16 (lowBits low) 0

/-- R155, formats 2, 7 and 8: seven opcode bits and three three-bit fields. -/
def encT7 (op : BitVec 7) (hi : BitVec 3) (mid low : LoReg) : Half :=
  at16 op 9 ||| at16 hi 6 ||| at16 (lowBits mid) 3 ||| at16 (lowBits low) 0

/-- R155, formats 3, 6, 11, 12 and 15: five opcode bits, a low register, eight bits. -/
def encT8 (op : BitVec 5) (r : LoReg) (off : BitVec 8) : Half := at16 op 11 ||| at16 (lowBits r) 8 ||| at16 off 0

/-- R155, format 4. -/
def encT4 (op : BitVec 4) (rs rd : LoReg) : Half := at16 16#6 10 ||| at16 op 6 ||| at16 (lowBits rs) 3 ||| at16 (lowBits rd) 0

/-- R155, format 5: H1, the high bit of `d`, is bit 7, and H2, that of `m`, is bit 6. -/
def encTHi (op : BitVec 2) (d m : Reg) : Half :=
  at16 17#6 10 ||| at16 op 8 ||| at16 ((regBits d).extractLsb' 3 1) 7 ||| at16 (regBits m) 3 ||| at16 ((regBits d).extractLsb' 0 3) 0

/-- The P, U and W bits of a T form (43_arm_load_store.md R327): P = 0, W = 1. -/
def tIdx (u : Bool) : Idx := ⟨false, u, true⟩

/-- The code of a well-formed instruction, written from R142, R155 and the opcode table.
Bits that an instruction ignores are written as the table marks them, SBO as ones and SBZ as zeros (log 21).
An undefined space has many words and the encoder writes one of each (log 21). -/
def Instr.encode : Instr → Code
  | .mul c s rd rs rm => .arm (encMul c 0#7 s rd 0 rs rm)
  | .mla c s rd rn rs rm => .arm (encMul c 1#7 s rd rn rs rm)
  | .undefMul c => .arm (at32 c.bits 28 ||| 0x0400090#32)
  | .umull c s rdHi rdLo rs rm => .arm (encMul c 4#7 s rdHi rdLo rs rm)
  | .umlal c s rdHi rdLo rs rm => .arm (encMul c 5#7 s rdHi rdLo rs rm)
  | .smull c s rdHi rdLo rs rm => .arm (encMul c 6#7 s rdHi rdLo rs rm)
  | .smlal c s rdHi rdLo rs rm => .arm (encMul c 7#7 s rdHi rdLo rs rm)
  | .swp c rn rd rm => .arm (encMul c 8#7 false rn rd 0 rm)
  | .swpb c rn rd rm => .arm (encMul c 10#7 false rn rd 0 rm)
  | .undefSwp c => .arm (at32 c.bits 28 ||| 0x1100090#32)
  | .strhReg c m rn rd rm => .arm (encHalf c m false false rn rd 1 0 (regBits rm))
  | .strhImm c m rn rd off => .arm (encHalf c m true false rn rd 1 (off.extractLsb' 4 4) (off.extractLsb' 0 4))
  | .ldrhReg c m rn rd rm => .arm (encHalf c m false true rn rd 1 0 (regBits rm))
  | .ldrhImm c m rn rd off => .arm (encHalf c m true true rn rd 1 (off.extractLsb' 4 4) (off.extractLsb' 0 4))
  | .ldrsbReg c m rn rd rm => .arm (encHalf c m false true rn rd 2 0 (regBits rm))
  | .ldrsbImm c m rn rd off => .arm (encHalf c m true true rn rd 2 (off.extractLsb' 4 4) (off.extractLsb' 0 4))
  | .ldrshReg c m rn rd rm => .arm (encHalf c m false true rn rd 3 0 (regBits rm))
  | .ldrshImm c m rn rd off => .arm (encHalf c m true true rn rd 3 (off.extractLsb' 4 4) (off.extractLsb' 0 4))
  | .undefHalfwordStore c => .arm (at32 c.bits 28 ||| 0x00000D0#32)
  | .mrs c r rd => .arm (at32 c.bits 28 ||| at32 2#5 23 ||| at32 (bit r) 22 ||| at32 15#4 16 ||| at32 (regBits rd) 12)
  | .msrReg c r mask rm => .arm (at32 c.bits 28 ||| at32 2#5 23 ||| at32 (bit r) 22 ||| at32 2#2 20 ||| at32 mask 16 ||| at32 15#4 12 ||| at32 (regBits rm) 0)
  | .bx c rm => .arm (at32 c.bits 28 ||| at32 0x12FFF1#24 4 ||| at32 (regBits rm) 0)
  | .undefMisc c => .arm (at32 c.bits 28 ||| 0x1000010#32)
  | .msrImm c r mask o => .arm (at32 c.bits 28 ||| at32 6#5 23 ||| at32 (bit r) 22 ||| at32 2#2 20 ||| at32 mask 16 ||| at32 15#4 12 ||| at32 o.rot 8 ||| at32 o.imm8 0)
  | .undefImmCmp c => .arm (at32 c.bits 28 ||| 0x3000000#32)
  | .andImm c s rn rd o => .arm (encDpImm c 0 s rn rd o)
  | .andImmShift c s rn rd o => .arm (encDpImmShift c 0 s rn rd o)
  | .andRegShift c s rn rd o => .arm (encDpRegShift c 0 s rn rd o)
  | .eorImm c s rn rd o => .arm (encDpImm c 1 s rn rd o)
  | .eorImmShift c s rn rd o => .arm (encDpImmShift c 1 s rn rd o)
  | .eorRegShift c s rn rd o => .arm (encDpRegShift c 1 s rn rd o)
  | .subImm c s rn rd o => .arm (encDpImm c 2 s rn rd o)
  | .subImmShift c s rn rd o => .arm (encDpImmShift c 2 s rn rd o)
  | .subRegShift c s rn rd o => .arm (encDpRegShift c 2 s rn rd o)
  | .rsbImm c s rn rd o => .arm (encDpImm c 3 s rn rd o)
  | .rsbImmShift c s rn rd o => .arm (encDpImmShift c 3 s rn rd o)
  | .rsbRegShift c s rn rd o => .arm (encDpRegShift c 3 s rn rd o)
  | .addImm c s rn rd o => .arm (encDpImm c 4 s rn rd o)
  | .addImmShift c s rn rd o => .arm (encDpImmShift c 4 s rn rd o)
  | .addRegShift c s rn rd o => .arm (encDpRegShift c 4 s rn rd o)
  | .adcImm c s rn rd o => .arm (encDpImm c 5 s rn rd o)
  | .adcImmShift c s rn rd o => .arm (encDpImmShift c 5 s rn rd o)
  | .adcRegShift c s rn rd o => .arm (encDpRegShift c 5 s rn rd o)
  | .sbcImm c s rn rd o => .arm (encDpImm c 6 s rn rd o)
  | .sbcImmShift c s rn rd o => .arm (encDpImmShift c 6 s rn rd o)
  | .sbcRegShift c s rn rd o => .arm (encDpRegShift c 6 s rn rd o)
  | .rscImm c s rn rd o => .arm (encDpImm c 7 s rn rd o)
  | .rscImmShift c s rn rd o => .arm (encDpImmShift c 7 s rn rd o)
  | .rscRegShift c s rn rd o => .arm (encDpRegShift c 7 s rn rd o)
  | .tstImm c rn o => .arm (encDpImm c 8 true rn 0 o)
  | .tstImmShift c rn o => .arm (encDpImmShift c 8 true rn 0 o)
  | .tstRegShift c rn o => .arm (encDpRegShift c 8 true rn 0 o)
  | .teqImm c rn o => .arm (encDpImm c 9 true rn 0 o)
  | .teqImmShift c rn o => .arm (encDpImmShift c 9 true rn 0 o)
  | .teqRegShift c rn o => .arm (encDpRegShift c 9 true rn 0 o)
  | .cmpImm c rn o => .arm (encDpImm c 10 true rn 0 o)
  | .cmpImmShift c rn o => .arm (encDpImmShift c 10 true rn 0 o)
  | .cmpRegShift c rn o => .arm (encDpRegShift c 10 true rn 0 o)
  | .cmnImm c rn o => .arm (encDpImm c 11 true rn 0 o)
  | .cmnImmShift c rn o => .arm (encDpImmShift c 11 true rn 0 o)
  | .cmnRegShift c rn o => .arm (encDpRegShift c 11 true rn 0 o)
  | .orrImm c s rn rd o => .arm (encDpImm c 12 s rn rd o)
  | .orrImmShift c s rn rd o => .arm (encDpImmShift c 12 s rn rd o)
  | .orrRegShift c s rn rd o => .arm (encDpRegShift c 12 s rn rd o)
  | .movImm c s rd o => .arm (encDpImm c 13 s 0 rd o)
  | .movImmShift c s rd o => .arm (encDpImmShift c 13 s 0 rd o)
  | .movRegShift c s rd o => .arm (encDpRegShift c 13 s 0 rd o)
  | .bicImm c s rn rd o => .arm (encDpImm c 14 s rn rd o)
  | .bicImmShift c s rn rd o => .arm (encDpImmShift c 14 s rn rd o)
  | .bicRegShift c s rn rd o => .arm (encDpRegShift c 14 s rn rd o)
  | .mvnImm c s rd o => .arm (encDpImm c 15 s 0 rd o)
  | .mvnImmShift c s rd o => .arm (encDpImmShift c 15 s 0 rd o)
  | .mvnRegShift c s rd o => .arm (encDpRegShift c 15 s 0 rd o)
  | .ldrtImm c u rn rd off => .arm (encSingleImm c (tIdx u) false true rn rd off)
  | .ldrtReg c u rn rd o => .arm (encSingleReg c (tIdx u) false true rn rd o)
  | .ldrbtImm c u rn rd off => .arm (encSingleImm c (tIdx u) true true rn rd off)
  | .ldrbtReg c u rn rd o => .arm (encSingleReg c (tIdx u) true true rn rd o)
  | .strtImm c u rn rd off => .arm (encSingleImm c (tIdx u) false false rn rd off)
  | .strtReg c u rn rd o => .arm (encSingleReg c (tIdx u) false false rn rd o)
  | .strbtImm c u rn rd off => .arm (encSingleImm c (tIdx u) true false rn rd off)
  | .strbtReg c u rn rd o => .arm (encSingleReg c (tIdx u) true false rn rd o)
  | .ldrImm c m rn rd off => .arm (encSingleImm c m false true rn rd off)
  | .ldrReg c m rn rd o => .arm (encSingleReg c m false true rn rd o)
  | .ldrbImm c m rn rd off => .arm (encSingleImm c m true true rn rd off)
  | .ldrbReg c m rn rd o => .arm (encSingleReg c m true true rn rd o)
  | .strImm c m rn rd off => .arm (encSingleImm c m false false rn rd off)
  | .strReg c m rn rd o => .arm (encSingleReg c m false false rn rd o)
  | .strbImm c m rn rd off => .arm (encSingleImm c m true false rn rd off)
  | .strbReg c m rn rd o => .arm (encSingleReg c m true false rn rd o)
  | .undefMedia c => .arm (at32 c.bits 28 ||| 0x6000010#32)
  | .ldmRet c m rn list => .arm (encBlock c m true true rn list)
  | .ldmUser c m rn list => .arm (encBlock c m true true rn list)
  | .stmUser c m rn list => .arm (encBlock c m true false rn list)
  | .ldm c m rn list => .arm (encBlock c m false true rn list)
  | .stm c m rn list => .arm (encBlock c m false false rn list)
  | .b c off => .arm (at32 c.bits 28 ||| at32 10#4 24 ||| at32 off 0)
  | .bl c off => .arm (at32 c.bits 28 ||| at32 11#4 24 ||| at32 off 0)
  | .coprocXfer c => .arm (at32 c.bits 28 ||| 0xC000000#32)
  | .coprocOp c => .arm (at32 c.bits 28 ||| 0xE000000#32)
  | .swi c comment => .arm (at32 c.bits 28 ||| at32 15#4 24 ||| at32 comment 0)
  | .tLslImm off rs rd => .thumb (encT5 0 off rs rd)
  | .tLsrImm off rs rd => .thumb (encT5 1 off rs rd)
  | .tAsrImm off rs rd => .thumb (encT5 2 off rs rd)
  | .tAddReg rn rs rd => .thumb (encT7 12 (lowBits rn) rs rd)
  | .tSubReg rn rs rd => .thumb (encT7 13 (lowBits rn) rs rd)
  | .tAddImm3 off rs rd => .thumb (encT7 14 off rs rd)
  | .tSubImm3 off rs rd => .thumb (encT7 15 off rs rd)
  | .tMovImm rd off => .thumb (encT8 4 rd off)
  | .tCmpImm rd off => .thumb (encT8 5 rd off)
  | .tAddImm8 rd off => .thumb (encT8 6 rd off)
  | .tSubImm8 rd off => .thumb (encT8 7 rd off)
  | .tAnd rs rd => .thumb (encT4 0 rs rd)
  | .tEor rs rd => .thumb (encT4 1 rs rd)
  | .tLsl rs rd => .thumb (encT4 2 rs rd)
  | .tLsr rs rd => .thumb (encT4 3 rs rd)
  | .tAsr rs rd => .thumb (encT4 4 rs rd)
  | .tAdc rs rd => .thumb (encT4 5 rs rd)
  | .tSbc rs rd => .thumb (encT4 6 rs rd)
  | .tRor rs rd => .thumb (encT4 7 rs rd)
  | .tTst rs rd => .thumb (encT4 8 rs rd)
  | .tNeg rs rd => .thumb (encT4 9 rs rd)
  | .tCmp rs rd => .thumb (encT4 10 rs rd)
  | .tCmn rs rd => .thumb (encT4 11 rs rd)
  | .tOrr rs rd => .thumb (encT4 12 rs rd)
  | .tMul rs rd => .thumb (encT4 13 rs rd)
  | .tBic rs rd => .thumb (encT4 14 rs rd)
  | .tMvn rs rd => .thumb (encT4 15 rs rd)
  | .tAddHi d m => .thumb (encTHi 0 d m)
  | .tCmpHi d m => .thumb (encTHi 1 d m)
  | .tMovHi d m => .thumb (encTHi 2 d m)
  | .tBx h1 m => .thumb (at16 71#8 8 ||| at16 (bit h1) 7 ||| at16 (regBits m) 3)
  | .tLdrPc rd off => .thumb (encT8 9 rd off)
  | .tStrReg ro rb rd => .thumb (encT7 40 (lowBits ro) rb rd)
  | .tStrhReg ro rb rd => .thumb (encT7 41 (lowBits ro) rb rd)
  | .tStrbReg ro rb rd => .thumb (encT7 42 (lowBits ro) rb rd)
  | .tLdsbReg ro rb rd => .thumb (encT7 43 (lowBits ro) rb rd)
  | .tLdrReg ro rb rd => .thumb (encT7 44 (lowBits ro) rb rd)
  | .tLdrhReg ro rb rd => .thumb (encT7 45 (lowBits ro) rb rd)
  | .tLdrbReg ro rb rd => .thumb (encT7 46 (lowBits ro) rb rd)
  | .tLdshReg ro rb rd => .thumb (encT7 47 (lowBits ro) rb rd)
  | .tStrImm off rb rd => .thumb (encT5 12 off rb rd)
  | .tLdrImm off rb rd => .thumb (encT5 13 off rb rd)
  | .tStrbImm off rb rd => .thumb (encT5 14 off rb rd)
  | .tLdrbImm off rb rd => .thumb (encT5 15 off rb rd)
  | .tStrhImm off rb rd => .thumb (encT5 16 off rb rd)
  | .tLdrhImm off rb rd => .thumb (encT5 17 off rb rd)
  | .tStrSp rd off => .thumb (encT8 18 rd off)
  | .tLdrSp rd off => .thumb (encT8 19 rd off)
  | .tAddPc rd off => .thumb (encT8 20 rd off)
  | .tAddSp rd off => .thumb (encT8 21 rd off)
  | .tAddSpImm s off => .thumb (at16 0xB0#8 8 ||| at16 (bit s) 7 ||| at16 off 0)
  | .tPush r list => .thumb (at16 0x5A#7 9 ||| at16 (bit r) 8 ||| at16 list 0)
  | .tPop r list => .thumb (at16 0x5E#7 9 ||| at16 (bit r) 8 ||| at16 list 0)
  | .tUndef1011 => .thumb 0xB100
  | .tStmia rb list => .thumb (encT8 24 rb list)
  | .tLdmia rb list => .thumb (encT8 25 rb list)
  | .tSwi comment => .thumb (at16 0xDF#8 8 ||| at16 comment 0)
  | .tUndefDe => .thumb 0xDE00
  | .tBCond c off => .thumb (at16 13#4 12 ||| at16 c.bits 8 ||| at16 off 0)
  | .tB off => .thumb (at16 28#5 11 ||| at16 off 0)
  | .tUndefE8 => .thumb 0xE800
  | .tBlHi off => .thumb (at16 30#5 11 ||| at16 off 0)
  | .tBlLo off => .thumb (at16 31#5 11 ||| at16 off 0)

/-! ## The opcode table as data (R153) -/

/-- One row of spec/opcode_table.json: a word `w` is in the row when `w AND mask = match` (R153). -/
structure Row where
  mnemonic : String
  code : Nat
  mask : Nat
  deriving DecidableEq, Repr

/-- Whether a word is in a row (R153). -/
def Row.holds (r : Row) (w : Nat) : Bool := w &&& r.mask == r.code

/-- The first row that holds a word: "the decoded instruction is the first row that holds w" (R153). -/
def firstRow : List Row → Nat → Option String
  | [], _ => none
  | r :: rs, w => if r.holds w then some r.mnemonic else firstRow rs w

/-- The rows of the 32-bit encoding, in decode order. -/
def armRows : List Row :=
  [
    ⟨"MUL", 0x90, 0xFE000F0⟩,
    ⟨"MLA", 0x200090, 0xFE000F0⟩,
    ⟨"UNDEF_mul", 0x400090, 0xFC000F0⟩,
    ⟨"UMULL", 0x800090, 0xFE000F0⟩,
    ⟨"UMLAL", 0xA00090, 0xFE000F0⟩,
    ⟨"SMULL", 0xC00090, 0xFE000F0⟩,
    ⟨"SMLAL", 0xE00090, 0xFE000F0⟩,
    ⟨"SWP", 0x1000090, 0xFF000F0⟩,
    ⟨"SWPB", 0x1400090, 0xFF000F0⟩,
    ⟨"UNDEF_swp", 0x1000090, 0xF0000F0⟩,
    ⟨"STRH_reg", 0xB0, 0xE5000F0⟩,
    ⟨"STRH_imm", 0x4000B0, 0xE5000F0⟩,
    ⟨"LDRH_reg", 0x1000B0, 0xE5000F0⟩,
    ⟨"LDRH_imm", 0x5000B0, 0xE5000F0⟩,
    ⟨"LDRSB_reg", 0x1000D0, 0xE5000F0⟩,
    ⟨"LDRSB_imm", 0x5000D0, 0xE5000F0⟩,
    ⟨"LDRSH_reg", 0x1000F0, 0xE5000F0⟩,
    ⟨"LDRSH_imm", 0x5000F0, 0xE5000F0⟩,
    ⟨"UNDEF_halfword_store", 0xD0, 0xE1000D0⟩,
    ⟨"MRS", 0x1000000, 0xFB000F0⟩] ++
  [
    ⟨"MSR_reg", 0x1200000, 0xFB000F0⟩,
    ⟨"BX", 0x1200010, 0xFF000F0⟩,
    ⟨"UNDEF_misc", 0x1000000, 0xF900000⟩,
    ⟨"MSR_imm", 0x3200000, 0xFB00000⟩,
    ⟨"UNDEF_imm_cmp", 0x3000000, 0xFB00000⟩,
    ⟨"AND_imm", 0x2000000, 0xFE00000⟩,
    ⟨"AND_imm_shift", 0x0, 0xFE00010⟩,
    ⟨"AND_reg_shift", 0x10, 0xFE00090⟩,
    ⟨"EOR_imm", 0x2200000, 0xFE00000⟩,
    ⟨"EOR_imm_shift", 0x200000, 0xFE00010⟩,
    ⟨"EOR_reg_shift", 0x200010, 0xFE00090⟩,
    ⟨"SUB_imm", 0x2400000, 0xFE00000⟩,
    ⟨"SUB_imm_shift", 0x400000, 0xFE00010⟩,
    ⟨"SUB_reg_shift", 0x400010, 0xFE00090⟩,
    ⟨"RSB_imm", 0x2600000, 0xFE00000⟩,
    ⟨"RSB_imm_shift", 0x600000, 0xFE00010⟩,
    ⟨"RSB_reg_shift", 0x600010, 0xFE00090⟩,
    ⟨"ADD_imm", 0x2800000, 0xFE00000⟩,
    ⟨"ADD_imm_shift", 0x800000, 0xFE00010⟩,
    ⟨"ADD_reg_shift", 0x800010, 0xFE00090⟩] ++
  [
    ⟨"ADC_imm", 0x2A00000, 0xFE00000⟩,
    ⟨"ADC_imm_shift", 0xA00000, 0xFE00010⟩,
    ⟨"ADC_reg_shift", 0xA00010, 0xFE00090⟩,
    ⟨"SBC_imm", 0x2C00000, 0xFE00000⟩,
    ⟨"SBC_imm_shift", 0xC00000, 0xFE00010⟩,
    ⟨"SBC_reg_shift", 0xC00010, 0xFE00090⟩,
    ⟨"RSC_imm", 0x2E00000, 0xFE00000⟩,
    ⟨"RSC_imm_shift", 0xE00000, 0xFE00010⟩,
    ⟨"RSC_reg_shift", 0xE00010, 0xFE00090⟩,
    ⟨"TST_imm", 0x3100000, 0xFF00000⟩,
    ⟨"TST_imm_shift", 0x1100000, 0xFF00010⟩,
    ⟨"TST_reg_shift", 0x1100010, 0xFF00090⟩,
    ⟨"TEQ_imm", 0x3300000, 0xFF00000⟩,
    ⟨"TEQ_imm_shift", 0x1300000, 0xFF00010⟩,
    ⟨"TEQ_reg_shift", 0x1300010, 0xFF00090⟩,
    ⟨"CMP_imm", 0x3500000, 0xFF00000⟩,
    ⟨"CMP_imm_shift", 0x1500000, 0xFF00010⟩,
    ⟨"CMP_reg_shift", 0x1500010, 0xFF00090⟩,
    ⟨"CMN_imm", 0x3700000, 0xFF00000⟩,
    ⟨"CMN_imm_shift", 0x1700000, 0xFF00010⟩] ++
  [
    ⟨"CMN_reg_shift", 0x1700010, 0xFF00090⟩,
    ⟨"ORR_imm", 0x3800000, 0xFE00000⟩,
    ⟨"ORR_imm_shift", 0x1800000, 0xFE00010⟩,
    ⟨"ORR_reg_shift", 0x1800010, 0xFE00090⟩,
    ⟨"MOV_imm", 0x3A00000, 0xFE00000⟩,
    ⟨"MOV_imm_shift", 0x1A00000, 0xFE00010⟩,
    ⟨"MOV_reg_shift", 0x1A00010, 0xFE00090⟩,
    ⟨"BIC_imm", 0x3C00000, 0xFE00000⟩,
    ⟨"BIC_imm_shift", 0x1C00000, 0xFE00010⟩,
    ⟨"BIC_reg_shift", 0x1C00010, 0xFE00090⟩,
    ⟨"MVN_imm", 0x3E00000, 0xFE00000⟩,
    ⟨"MVN_imm_shift", 0x1E00000, 0xFE00010⟩,
    ⟨"MVN_reg_shift", 0x1E00010, 0xFE00090⟩,
    ⟨"LDRT_imm", 0x4300000, 0xF700000⟩,
    ⟨"LDRT_reg", 0x6300000, 0xF700010⟩,
    ⟨"LDRBT_imm", 0x4700000, 0xF700000⟩,
    ⟨"LDRBT_reg", 0x6700000, 0xF700010⟩,
    ⟨"STRT_imm", 0x4200000, 0xF700000⟩,
    ⟨"STRT_reg", 0x6200000, 0xF700010⟩,
    ⟨"STRBT_imm", 0x4600000, 0xF700000⟩] ++
  [
    ⟨"STRBT_reg", 0x6600000, 0xF700010⟩,
    ⟨"LDR_imm", 0x4100000, 0xE500000⟩,
    ⟨"LDR_reg", 0x6100000, 0xE500010⟩,
    ⟨"LDRB_imm", 0x4500000, 0xE500000⟩,
    ⟨"LDRB_reg", 0x6500000, 0xE500010⟩,
    ⟨"STR_imm", 0x4000000, 0xE500000⟩,
    ⟨"STR_reg", 0x6000000, 0xE500010⟩,
    ⟨"STRB_imm", 0x4400000, 0xE500000⟩,
    ⟨"STRB_reg", 0x6400000, 0xE500010⟩,
    ⟨"UNDEF_media", 0x6000010, 0xE000010⟩,
    ⟨"LDM_ret", 0x8508000, 0xE508000⟩,
    ⟨"LDM_user", 0x8500000, 0xE500000⟩,
    ⟨"STM_user", 0x8400000, 0xE500000⟩,
    ⟨"LDM", 0x8100000, 0xE500000⟩,
    ⟨"STM", 0x8000000, 0xE500000⟩,
    ⟨"B", 0xA000000, 0xF000000⟩,
    ⟨"BL", 0xB000000, 0xF000000⟩,
    ⟨"COPROC_xfer", 0xC000000, 0xE000000⟩,
    ⟨"COPROC_op", 0xE000000, 0xF000000⟩,
    ⟨"SWI", 0xF000000, 0xF000000⟩]

/-- The rows of the 16-bit encoding, in decode order. -/
def thumbRows : List Row :=
  [
    ⟨"T_LSL_imm", 0x0, 0xF800⟩,
    ⟨"T_LSR_imm", 0x800, 0xF800⟩,
    ⟨"T_ASR_imm", 0x1000, 0xF800⟩,
    ⟨"T_ADD_reg", 0x1800, 0xFE00⟩,
    ⟨"T_SUB_reg", 0x1A00, 0xFE00⟩,
    ⟨"T_ADD_imm3", 0x1C00, 0xFE00⟩,
    ⟨"T_SUB_imm3", 0x1E00, 0xFE00⟩,
    ⟨"T_MOV_imm", 0x2000, 0xF800⟩,
    ⟨"T_CMP_imm", 0x2800, 0xF800⟩,
    ⟨"T_ADD_imm8", 0x3000, 0xF800⟩,
    ⟨"T_SUB_imm8", 0x3800, 0xF800⟩,
    ⟨"T_AND", 0x4000, 0xFFC0⟩,
    ⟨"T_EOR", 0x4040, 0xFFC0⟩,
    ⟨"T_LSL", 0x4080, 0xFFC0⟩,
    ⟨"T_LSR", 0x40C0, 0xFFC0⟩,
    ⟨"T_ASR", 0x4100, 0xFFC0⟩,
    ⟨"T_ADC", 0x4140, 0xFFC0⟩,
    ⟨"T_SBC", 0x4180, 0xFFC0⟩,
    ⟨"T_ROR", 0x41C0, 0xFFC0⟩,
    ⟨"T_TST", 0x4200, 0xFFC0⟩] ++
  [
    ⟨"T_NEG", 0x4240, 0xFFC0⟩,
    ⟨"T_CMP", 0x4280, 0xFFC0⟩,
    ⟨"T_CMN", 0x42C0, 0xFFC0⟩,
    ⟨"T_ORR", 0x4300, 0xFFC0⟩,
    ⟨"T_MUL", 0x4340, 0xFFC0⟩,
    ⟨"T_BIC", 0x4380, 0xFFC0⟩,
    ⟨"T_MVN", 0x43C0, 0xFFC0⟩,
    ⟨"T_ADD_hi", 0x4400, 0xFF00⟩,
    ⟨"T_CMP_hi", 0x4500, 0xFF00⟩,
    ⟨"T_MOV_hi", 0x4600, 0xFF00⟩,
    ⟨"T_BX", 0x4700, 0xFF00⟩,
    ⟨"T_LDR_pc", 0x4800, 0xF800⟩,
    ⟨"T_STR_reg", 0x5000, 0xFE00⟩,
    ⟨"T_STRH_reg", 0x5200, 0xFE00⟩,
    ⟨"T_STRB_reg", 0x5400, 0xFE00⟩,
    ⟨"T_LDSB_reg", 0x5600, 0xFE00⟩,
    ⟨"T_LDR_reg", 0x5800, 0xFE00⟩,
    ⟨"T_LDRH_reg", 0x5A00, 0xFE00⟩,
    ⟨"T_LDRB_reg", 0x5C00, 0xFE00⟩,
    ⟨"T_LDSH_reg", 0x5E00, 0xFE00⟩] ++
  [
    ⟨"T_STR_imm", 0x6000, 0xF800⟩,
    ⟨"T_LDR_imm", 0x6800, 0xF800⟩,
    ⟨"T_STRB_imm", 0x7000, 0xF800⟩,
    ⟨"T_LDRB_imm", 0x7800, 0xF800⟩,
    ⟨"T_STRH_imm", 0x8000, 0xF800⟩,
    ⟨"T_LDRH_imm", 0x8800, 0xF800⟩,
    ⟨"T_STR_sp", 0x9000, 0xF800⟩,
    ⟨"T_LDR_sp", 0x9800, 0xF800⟩,
    ⟨"T_ADD_pc", 0xA000, 0xF800⟩,
    ⟨"T_ADD_sp", 0xA800, 0xF800⟩,
    ⟨"T_ADD_sp_imm", 0xB000, 0xFF00⟩,
    ⟨"T_PUSH", 0xB400, 0xFE00⟩,
    ⟨"T_POP", 0xBC00, 0xFE00⟩,
    ⟨"T_UNDEF_1011", 0xB000, 0xF000⟩,
    ⟨"T_STMIA", 0xC000, 0xF800⟩,
    ⟨"T_LDMIA", 0xC800, 0xF800⟩,
    ⟨"T_SWI", 0xDF00, 0xFF00⟩,
    ⟨"T_UNDEF_DE", 0xDE00, 0xFF00⟩,
    ⟨"T_B_cond", 0xD000, 0xF000⟩,
    ⟨"T_B", 0xE000, 0xF800⟩] ++
  [
    ⟨"T_UNDEF_E8", 0xE800, 0xF800⟩,
    ⟨"T_BL_hi", 0xF000, 0xF800⟩,
    ⟨"T_BL_lo", 0xF800, 0xF800⟩]

end Sys2Proof
end

