-- ==== Sys2Proof/Machine/Params.lean ====
section
/-! DEFINITION. The values the machine starts from: the parameters' defaults (00_scope.md R10), the cost tables (20_memory.md R120),
the boot values (10_state.md R60) and what a byte of memory that nothing has written reads as (R110). -/

namespace Sys2Proof.Machine

/-- What an address that memory does not list reads as: "all zero except defined reset values" (R110).
For BIOS, ROM and SRAM it says that the image supplied holds 0 there (log 3, DESIGN CHOICE, unsafe). -/
def unlisted : Byte := 0

/-- The configuration after reset: the defaults R10 gives, each as the table there has it.
`romSize` has no default there (the image is an input), and the model takes the largest image (log 2, DESIGN CHOICE, unsafe).
`dpReturn` and `ldmReturn` are the model's own: an LDM return is R357's to the letter; R259 and R501 with R535 contradict each other on a
data-processing return, and the model follows R501 and R535 there (log 4, DESIGN CHOICE, unsafe). -/
def specConfig : Config where
  unpredictable := .fault
  undef := .nop
  pcStoreRead := .plus8
  romSize := 0x2000000
  sramSize := 0x10000
  vramTail := .base00000
  ioWindowLast := 0x040003FF
  oow := .discard
  boot := .cold
  dpReturn := .restored
  ldmReturn := .stepwise

/-- A row whose byte and halfword costs agree, as every row of R120 has it: 8/16-bit N and S, 32-bit N and S. -/
def costRow (n16 s16 n32 s32 : Nat) : CostRow := ⟨n16, s16, n16, s16, n32, s32⟩

/-- "A flat 1-cycle cost" (R120). -/
def flatRow : CostRow := costRow 1 1 1 1

/-- The default table of R120, the same for code and data. -/
def defaultCosts : CostTable where
  bios := costRow 1 1 1 1
  ewram := costRow 3 3 6 6
  iwram := costRow 1 1 1 1
  io := costRow 1 1 1 1
  pal := costRow 1 1 2 2
  vram := costRow 1 1 2 2
  oam := costRow 1 1 1 1
  top08 := costRow 5 3 8 6
  top09 := costRow 5 3 8 6
  top0A := costRow 5 5 10 10
  top0B := costRow 5 5 10 10
  top0C := costRow 5 9 14 18
  top0D := costRow 5 9 14 18
  top0E := costRow 5 5 5 5
  top0F := costRow 5 5 5 5

/-- The CPSR after reset (R60, R571). -/
def bootCpsr : BootMode → Word
  | .cold => 0x000000D3
  | .direct => 0x0000001F

/-- The first fetch address (R60, R571). -/
def bootPc : BootMode → Word
  | .cold => 0x00000000
  | .direct => 0x08000000

/-- The stack pointers of the user, irq and supervisor banks after reset (R60). -/
def bootSp : BootMode → Word × Word × Word
  | .cold => (0, 0, 0)
  | .direct => (0x03007F00, 0x03007FA0, 0x03007FE0)

end Sys2Proof.Machine
end

