-- ==== Sys2Proof/Machine/State.lean ====
section
/-! DEFINITION. The state of the machine, all of it (10_state.md R56), the reasons a step can stop, and reset (R60, R110). -/

namespace Sys2Proof.Machine

/-- The seven processor modes (R42). -/
inductive Mode where
  | usr | fiq | irq | svc | abt | und | sys
  deriving DecidableEq, Repr

/-- The 31 physical registers, by the names R31 gives them. -/
inductive Phys where
  | r0 | r1 | r2 | r3 | r4 | r5 | r6 | r7
  | r8_usr | r9_usr | r10_usr | r11_usr | r12_usr | r8_fiq | r9_fiq | r10_fiq | r11_fiq | r12_fiq
  | r13_usr | r14_usr | r13_fiq | r14_fiq | r13_irq | r14_irq | r13_svc | r14_svc | r13_abt | r14_abt | r13_und | r14_und | r15
  deriving DecidableEq, Repr

/-- The contents of the 31 physical registers (R31). `r15` holds pc_next between instructions (R35). -/
structure Regs where
  r0 : Word
  r1 : Word
  r2 : Word
  r3 : Word
  r4 : Word
  r5 : Word
  r6 : Word
  r7 : Word
  r8_usr : Word
  r9_usr : Word
  r10_usr : Word
  r11_usr : Word
  r12_usr : Word
  r8_fiq : Word
  r9_fiq : Word
  r10_fiq : Word
  r11_fiq : Word
  r12_fiq : Word
  r13_usr : Word
  r14_usr : Word
  r13_fiq : Word
  r14_fiq : Word
  r13_irq : Word
  r14_irq : Word
  r13_svc : Word
  r14_svc : Word
  r13_abt : Word
  r14_abt : Word
  r13_und : Word
  r14_und : Word
  r15 : Word
  deriving DecidableEq, Repr

/-- The five saved status words (R47). -/
structure Spsrs where
  fiq : Word
  irq : Word
  svc : Word
  abt : Word
  und : Word
  deriving DecidableEq, Repr

/-- The UNPREDICTABLE cases (93_implementation_defined.md section 2), each under the name it has there. -/
inductive Unpred where
  /-- `dp_regshift_rd15`: ARM data processing, register-shift form, Rd = 15 (R251). -/
  | dpRegshiftRd15
  /-- `mrs_rd15`: MRS with Rd = 15 (R280). -/
  | mrsRd15
  /-- `msr_rm15`: MSR register form with Rm = 15 (R281). -/
  | msrRm15
  /-- `msr_t_change`: MSR to CPSR that changes T (R283). -/
  | msrTChange
  /-- `mul_r15`: MUL/MLA with register 15 as an operand (R301). -/
  | mulR15
  /-- `mul_rd_eq_rm`: MUL/MLA with Rd = Rm (R301). -/
  | mulRdEqRm
  /-- `mull_r15`: long multiply with register 15 as an operand (R301). -/
  | mullR15
  /-- `mull_reg_overlap`: long multiply with RdHi = RdLo, RdHi = Rm or RdLo = Rm (R301). -/
  | mullRegOverlap
  /-- `ldst_wb_rn15`: single or halfword transfer, write-back with Rn = 15 (R321, R335). -/
  | ldstWbRn15
  /-- `ldr_wb_rn_eq_rd`: load with write-back and Rn = Rd (R321, R335). -/
  | ldrWbRnEqRd
  /-- `ldst_rm15`: LDR/STR register offset with Rm = 15 (R321). -/
  | ldstRm15
  /-- `ldrb_rd15`: LDRB with Rd = 15 (R323). -/
  | ldrbRd15
  /-- `half_post_w`: halfword transfer with P = 0 and W = 1 (R335). -/
  | halfPostW
  /-- `half_rm15`: halfword transfer, register offset with Rm = 15 (R335). -/
  | halfRm15
  /-- `ldrh_rd15`: LDRH, LDRSB, LDRSH with Rd = 15 (R336, R337, R339). -/
  | ldrhRd15
  /-- `ldm_rn15`: LDM/STM with Rn = 15 (R346). -/
  | ldmRn15
  /-- `ldm_empty`: LDM/STM with an empty list (R346). -/
  | ldmEmpty
  /-- `ldm_user_in_usr`: LDM/STM with S = 1 in usr mode (R346). -/
  | ldmUserInUsr
  /-- `ldm_user_wb`: user-bank transfer with W = 1 (R346). -/
  | ldmUserWb
  /-- `swp_r15`: SWP/SWPB with register 15 as Rd, Rm or Rn (R360, R361). -/
  | swpR15
  /-- `swp_rn_overlap`: SWP/SWPB with Rn = Rd or Rn = Rm (R360, R361). -/
  | swpRnOverlap
  /-- `bx_arm_misaligned`: BX to ARM state with target bit 1 set (R376, R432). -/
  | bxArmMisaligned
  /-- `bx_pc`: ARM BX with Rm = 15 (R376). -/
  | bxPc
  /-- `thumb_hireg_lowlow`: Thumb format 5 ADD, CMP or MOV with H1 = H2 = 0 (R428). -/
  | thumbHiregLowlow
  /-- `thumb_bx_h1`: Thumb BX with H1 = 1 (R428). -/
  | thumbBxH1
  /-- `thumb_ldmstm_empty`: Thumb LDMIA/STMIA with an empty list (R451). -/
  | thumbLdmstmEmpty
  /-- `thumb_pushpop_empty`: Thumb PUSH/POP with an empty list and R = 0 (R451). -/
  | thumbPushpopEmpty
  deriving DecidableEq, Repr

/-- The fault names of R55: the model stops; no program can observe or handle it (00_scope.md R15).
Every one is the spec's own stop, so each is safe. -/
inductive FaultName where
  /-- An SPSR access in usr or sys mode, or a CPSR write whose M field is no mode (R42, R47). Raised by MRS, MSR, flag-setting data
  processing into R15 and the exception-return LDM. Safe: the spec stops there too. -/
  | modeError
  /-- An access above the I/O window under `IO_OOW_POLICY = fault` (20_memory.md R95). Raised by loads, stores and fetches. Safe. -/
  | ioOutOfWindow
  /-- An UNPREDICTABLE case under `UNPREDICTABLE_POLICY = fault` (93_implementation_defined.md section 2). Safe. -/
  | unpredictable (case : Unpred)
  deriving DecidableEq, Repr

/-- Why an instruction has no meaning. Every instruction of this model has one. -/
inductive Refusal where
  /-- Raised by an arm of `exec` for an instruction not modelled yet; no arm does. Safe. -/
  | notModelled (mnemonic : String)
  deriving DecidableEq, Repr

/-- Memory: the bytes that are not `unlisted`, by strictly rising address (20_memory.md R86). An address is that of a byte of a
region's backing store, the region's first address plus the local index (log 9). -/
abbrev Memory := List Host.Cell

/-- The canonical form of memory from an address on: addresses strictly rising, no byte equal to `unlisted`. -/
def Memory.wfFrom : Nat → Memory → Bool
  | _, [] => true
  | lo, (a, b) :: m => decide (lo ≤ a) && decide (b ≠ unlisted) && Memory.wfFrom (a + 1) m

/-- The canonical form of memory. -/
def Memory.wf (m : Memory) : Bool := Memory.wfFrom 0 m

/-- One event of the I/O write hook (R54, 20_memory.md R96): the access's width, address and value, and the window's bytes after the
write, those of them that are not `unlisted` (log 10). -/
structure IoEvent where
  width : Width
  addr : Word
  value : Word
  snapshot : List Host.Cell
  deriving DecidableEq, Repr

/-- The complete state (R56), with the configuration (log 1), the FIQ line's coming values (log 6) and the draw index (log 5). -/
structure State where
  regs : Regs
  cpsr : Word
  spsr : Spsrs
  mem : Memory
  cycles : DWord
  sched : DWord
  costCode : CostTable
  costData : CostTable
  ioEvents : List IoEvent
  fault : Option FaultName
  cfg : Config
  fiqLine : List Bool
  draws : Nat
  deriving DecidableEq, Repr

/-- A stop: its name, and the state it leaves "at the point of the fault" (70_reset_and_hazards.md R580), with the fault mark set (log 7).
Every one is the spec's own stop, so each is safe. -/
inductive Fault where
  /-- Raised by MRS, MSR, flag-setting data processing into R15 and the exception-return LDM (R42, R47). Safe: the spec stops there too. -/
  | modeError (stuck : State)
  /-- Raised by loads, stores and fetches above the I/O window under `IO_OOW_POLICY = fault` (20_memory.md R95). Safe. -/
  | ioOutOfWindow (stuck : State)
  /-- Raised by an UNPREDICTABLE case under `UNPREDICTABLE_POLICY = fault` (93_implementation_defined.md section 2). Safe. -/
  | unpredictable (case : Unpred) (stuck : State)
  deriving DecidableEq, Repr

/-- The stop of a name with the state it leaves. -/
def FaultName.fault : FaultName → State → Fault
  | .modeError, t => .modeError t
  | .ioOutOfWindow, t => .ioOutOfWindow t
  | .unpredictable u, t => .unpredictable u t

/-- The state a stop leaves. -/
def Fault.stuck : Fault → State
  | .modeError t => t
  | .ioOutOfWindow t => t
  | .unpredictable _ t => t

/-- Every register zero (R60). -/
def Regs.zero : Regs :=
  ⟨0, 0, 0, 0, 0, 0, 0, 0, 0, 0, 0, 0, 0, 0, 0, 0, 0, 0, 0, 0, 0, 0, 0, 0, 0, 0, 0, 0, 0, 0, 0⟩

/-- The registers after reset (R60). -/
def bootRegs (b : BootMode) : Regs where
  r0 := 0
  r1 := 0
  r2 := 0
  r3 := 0
  r4 := 0
  r5 := 0
  r6 := 0
  r7 := 0
  r8_usr := 0
  r9_usr := 0
  r10_usr := 0
  r11_usr := 0
  r12_usr := 0
  r8_fiq := 0
  r9_fiq := 0
  r10_fiq := 0
  r11_fiq := 0
  r12_fiq := 0
  r13_usr := (bootSp b).1
  r14_usr := 0
  r13_fiq := 0
  r14_fiq := 0
  r13_irq := (bootSp b).2.1
  r14_irq := 0
  r13_svc := (bootSp b).2.2
  r14_svc := 0
  r13_abt := 0
  r14_abt := 0
  r13_und := 0
  r14_und := 0
  r15 := bootPc b

/-- Configure and reset (70_reset_and_hazards.md R570, R610): the parameters, the two cost tables and the bytes of the BIOS, ROM and SRAM
images, as memory lists them. -/
def State.resetWith (c : Config) (code data : CostTable) (images : Memory) : State where
  regs := bootRegs c.boot
  cpsr := bootCpsr c.boot
  spsr := ⟨0, 0, 0, 0, 0⟩
  mem := images
  cycles := 0
  sched := 0
  costCode := code
  costData := data
  ioEvents := []
  fault := none
  cfg := c
  fiqLine := []
  draws := 0

/-- The machine right after reset (R60, R110, R571), with R10's defaults and images of zeros: nothing is listed in memory (log 2, log 3). -/
def State.reset : State := State.resetWith specConfig defaultCosts defaultCosts []

end Sys2Proof.Machine
end

