-- ==== Sys2Proof/Machine/Ops.lean ====
section
/-! DEFINITION. The named operations: status words, the bank map, the program counter, memory, the cycle model, exception entry and
return, and the two gates every instruction passes (its condition's skip, its UNPREDICTABLE cases). -/

namespace Sys2Proof.Machine

/-- What an instruction or a step answers. -/
abbrev Result := Host.Outcome State Fault Refusal

/-! ## Status words (10_state.md R40 to R50) -/

/-- A word with bit `k` set to `b` (R49). -/
def putBit (w : Word) (k : Nat) (b : Bool) : Word := if b then w ||| (1#32 <<< k) else w &&& ~~~(1#32 <<< k)

/-- The number of a mode (R42). -/
def Mode.bits : Mode → BitVec 5
  | .usr => 0x10
  | .fiq => 0x11
  | .irq => 0x12
  | .svc => 0x13
  | .abt => 0x17
  | .und => 0x1B
  | .sys => 0x1F

/-- The mode a five-bit field names, if it names one (R42). -/
def Mode.ofBits (b : BitVec 5) : Option Mode :=
  match b with
  | 0x10#5 => some .usr
  | 0x11#5 => some .fiq
  | 0x12#5 => some .irq
  | 0x13#5 => some .svc
  | 0x17#5 => some .abt
  | 0x1B#5 => some .und
  | 0x1F#5 => some .sys
  | _ => none

/-- Bits 4:0 of a status word. -/
def modeField (psr : Word) : BitVec 5 := psr.extractLsb' 0 5

/-- A status word with its mode field replaced. -/
def withMode (psr : Word) (m : Mode) : Word := (psr &&& ~~~0x1F#32) ||| m.bits.setWidth 32

/-- The current mode (R32). A mode field that names no mode reads as the user bank; no run reaches one (log 8). -/
def State.mode (s : State) : Mode := (Mode.ofBits (modeField s.cpsr)).getD .usr

/-- CPSR.N. -/
def State.flagN (s : State) : Bool := s.cpsr.getLsbD 31

/-- CPSR.Z. -/
def State.flagZ (s : State) : Bool := s.cpsr.getLsbD 30

/-- CPSR.C. -/
def State.flagC (s : State) : Bool := s.cpsr.getLsbD 29

/-- CPSR.V. -/
def State.flagV (s : State) : Bool := s.cpsr.getLsbD 28

/-- CPSR.I: 1 masks IRQ (R43). -/
def State.maskI (s : State) : Bool := s.cpsr.getLsbD 7

/-- CPSR.F: 1 masks FIQ (R43). -/
def State.maskF (s : State) : Bool := s.cpsr.getLsbD 6

/-- CPSR.T: 1 selects the 16-bit decode table (R41). -/
def State.thumb (s : State) : Bool := s.cpsr.getLsbD 5

/-- The four flags of a status word replaced (R45, `write_cpsr_flags`; R49, `put_flag`). -/
def withFlags (psr : Word) (n z c v : Bool) : Word := putBit (putBit (putBit (putBit psr 31 n) 30 z) 29 c) 28 v

/-- `write_cpsr_flags` (R45). -/
def State.writeFlags (s : State) (n z c v : Bool) : State := { s with cpsr := withFlags s.cpsr n z c v }

/-- `write_cpsr` (R45): the whole word, after the mode check (R42). -/
def State.writeCpsr (s : State) (v : Word) : Except FaultName State :=
  match Mode.ofBits (modeField v) with
  | some _ => .ok { s with cpsr := v }
  | none => .error .modeError

/-- A mode's saved status word; usr and sys have none (R47). -/
def Spsrs.get (p : Spsrs) : Mode → Option Word
  | .fiq => some p.fiq
  | .irq => some p.irq
  | .svc => some p.svc
  | .abt => some p.abt
  | .und => some p.und
  | .usr => none
  | .sys => none

/-- A mode's saved status word replaced; usr and sys have none, so nothing changes there. -/
def Spsrs.set (p : Spsrs) (m : Mode) (v : Word) : Spsrs :=
  match m with
  | .fiq => { p with fiq := v }
  | .irq => { p with irq := v }
  | .svc => { p with svc := v }
  | .abt => { p with abt := v }
  | .und => { p with und := v }
  | .usr => p
  | .sys => p

/-- `SPSR`: the slot of the current mode (R47). -/
def State.spsrNow (s : State) : Option Word := s.spsr.get s.mode

/-- A write of `SPSR` (R47, R50). -/
def State.writeSpsr (s : State) (v : Word) : Except FaultName State :=
  match s.spsrNow with
  | some _ => .ok { s with spsr := s.spsr.set s.mode v }
  | none => .error .modeError

/-- `save_cpsr` (R48). -/
def State.saveCpsr (s : State) : Except FaultName State := s.writeSpsr s.cpsr

/-- `load_cpsr` (R48). -/
def State.loadCpsr (s : State) : Except FaultName State :=
  match s.spsrNow with
  | some v => s.writeCpsr v
  | none => .error .modeError

/-- `Fault(f)` at the point where the machine is in state `s` (00_scope.md R15, R55, 70_reset_and_hazards.md R580): `s` is left, marked. -/
def State.stop (s : State) (f : FaultName) : Result := .fault (f.fault { s with fault := some f })

/-- The next state, or a fault that leaves `s`. -/
def State.orStop (s : State) : Except FaultName State → Result
  | .ok t => .next t
  | .error f => s.stop f

/-! ## Registers (R30 to R38) -/

/-- A physical register's value. -/
def Regs.get (r : Regs) : Phys → Word
  | .r0 => r.r0
  | .r1 => r.r1
  | .r2 => r.r2
  | .r3 => r.r3
  | .r4 => r.r4
  | .r5 => r.r5
  | .r6 => r.r6
  | .r7 => r.r7
  | .r8_usr => r.r8_usr
  | .r9_usr => r.r9_usr
  | .r10_usr => r.r10_usr
  | .r11_usr => r.r11_usr
  | .r12_usr => r.r12_usr
  | .r8_fiq => r.r8_fiq
  | .r9_fiq => r.r9_fiq
  | .r10_fiq => r.r10_fiq
  | .r11_fiq => r.r11_fiq
  | .r12_fiq => r.r12_fiq
  | .r13_usr => r.r13_usr
  | .r14_usr => r.r14_usr
  | .r13_fiq => r.r13_fiq
  | .r14_fiq => r.r14_fiq
  | .r13_irq => r.r13_irq
  | .r14_irq => r.r14_irq
  | .r13_svc => r.r13_svc
  | .r14_svc => r.r14_svc
  | .r13_abt => r.r13_abt
  | .r14_abt => r.r14_abt
  | .r13_und => r.r13_und
  | .r14_und => r.r14_und
  | .r15 => r.r15

/-- A physical register written. -/
def Regs.set (r : Regs) (p : Phys) (v : Word) : Regs :=
  match p with
  | .r0 => { r with r0 := v }
  | .r1 => { r with r1 := v }
  | .r2 => { r with r2 := v }
  | .r3 => { r with r3 := v }
  | .r4 => { r with r4 := v }
  | .r5 => { r with r5 := v }
  | .r6 => { r with r6 := v }
  | .r7 => { r with r7 := v }
  | .r8_usr => { r with r8_usr := v }
  | .r9_usr => { r with r9_usr := v }
  | .r10_usr => { r with r10_usr := v }
  | .r11_usr => { r with r11_usr := v }
  | .r12_usr => { r with r12_usr := v }
  | .r8_fiq => { r with r8_fiq := v }
  | .r9_fiq => { r with r9_fiq := v }
  | .r10_fiq => { r with r10_fiq := v }
  | .r11_fiq => { r with r11_fiq := v }
  | .r12_fiq => { r with r12_fiq := v }
  | .r13_usr => { r with r13_usr := v }
  | .r14_usr => { r with r14_usr := v }
  | .r13_fiq => { r with r13_fiq := v }
  | .r14_fiq => { r with r14_fiq := v }
  | .r13_irq => { r with r13_irq := v }
  | .r14_irq => { r with r14_irq := v }
  | .r13_svc => { r with r13_svc := v }
  | .r14_svc => { r with r14_svc := v }
  | .r13_abt => { r with r13_abt := v }
  | .r14_abt => { r with r14_abt := v }
  | .r13_und => { r with r13_und := v }
  | .r14_und => { r with r14_und := v }
  | .r15 => { r with r15 := v }

/-- The bank map (R31, R32): "a pure function of the current mode". -/
def phys (m : Mode) (i : Reg) : Phys :=
  match i.val with
  | 0 => .r0
  | 1 => .r1
  | 2 => .r2
  | 3 => .r3
  | 4 => .r4
  | 5 => .r5
  | 6 => .r6
  | 7 => .r7
  | 8 => match m with
    | .fiq => .r8_fiq
    | _ => .r8_usr
  | 9 => match m with
    | .fiq => .r9_fiq
    | _ => .r9_usr
  | 10 => match m with
    | .fiq => .r10_fiq
    | _ => .r10_usr
  | 11 => match m with
    | .fiq => .r11_fiq
    | _ => .r11_usr
  | 12 => match m with
    | .fiq => .r12_fiq
    | _ => .r12_usr
  | 13 => match m with
    | .usr => .r13_usr
    | .sys => .r13_usr
    | .fiq => .r13_fiq
    | .irq => .r13_irq
    | .svc => .r13_svc
    | .abt => .r13_abt
    | .und => .r13_und
  | 14 => match m with
    | .usr => .r14_usr
    | .sys => .r14_usr
    | .fiq => .r14_fiq
    | .irq => .r14_irq
    | .svc => .r14_svc
    | .abt => .r14_abt
    | .und => .r14_und
  | _ => .r15

/-- The address of the instruction executing, and between instructions the next one's (R35). -/
def State.pc (s : State) : Word := s.regs.r15

/-- An address aligned for the decode table the T bit selects (R38). -/
def alignPc (thumb : Bool) (v : Word) : Word := if thumb then v &&& 0xFFFFFFFE#32 else v &&& 0xFFFFFFFC#32

/-- `pc_next <- v`, as given. -/
def State.setPc (s : State) (v : Word) : State := { s with regs := s.regs.set .r15 v }

/-- A branch: `pc_next <- v`, aligned by the T bit (R38). -/
def State.branch (s : State) (v : Word) : State := s.setPc (alignPc s.thumb v)

/-- The pipeline lookahead offset (R36). -/
def State.ahead (s : State) : Word := if s.thumb then 4 else 8

/-- The length in bytes of an instruction of the current state (R140). -/
def State.ilen (s : State) : Word := if s.thumb then 2 else 4

/-- `R[i]` (00_scope.md R13): through the bank map; register 15 reads with the lookahead offset (R36).
An instruction reads its operands in the state it starts in, where `pc` is pc_cur. -/
def State.reg (s : State) (i : Reg) : Word := if i = 15 then s.pc + s.ahead else s.regs.get (phys s.mode i)

/-- `R[i]` in the three cases of R37: register 15 reads as the parameter `PC_REGSHIFT_STORE_READ` says. -/
def State.regLate (s : State) (i : Reg) : Word :=
  if i = 15 then s.pc + (match s.cfg.pcStoreRead with | .plus8 => 8#32 | .plus12 => 12#32) else s.reg i

/-- `R[i] <- v` (R13): through the bank map; register 15 is a branch (R38). -/
def State.setReg (s : State) (i : Reg) (v : Word) : State :=
  if i = 15 then s.branch v else { s with regs := s.regs.set (phys s.mode i) v }

/-- `Ruser[i]` (R34) as a transfer stores it: the user bank, whatever the mode. -/
def State.userReg (s : State) (i : Reg) : Word := if i = 15 then s.reg i else s.regs.get (phys .usr i)

/-- `Ruser[i] <- v` (R34). -/
def State.setUserReg (s : State) (i : Reg) (v : Word) : State :=
  if i = 15 then s.branch v else { s with regs := s.regs.set (phys .usr i) v }

/-- A low register read by a Thumb instruction (30_encoding.md R160). -/
def State.lo (s : State) (i : LoReg) : Word := s.reg i.toReg

/-- A low register written by a Thumb instruction. -/
def State.setLo (s : State) (i : LoReg) (v : Word) : State := s.setReg i.toReg v

/-! ## Memory (20_memory.md R80 to R103) -/

/-- The byte at an address of the backing store. -/
def Memory.get : Memory → Nat → Byte
  | [], _ => unlisted
  | (a, b) :: m, k => if a = k then b else Memory.get m k

/-- A byte of the backing store written, in canonical form: an `unlisted` byte is not listed. -/
def Memory.set : Memory → Nat → Byte → Memory
  | [], k, v => if v = unlisted then [] else [(k, v)]
  | (a, b) :: m, k, v =>
    if k < a then (if v = unlisted then (a, b) :: m else (k, v) :: (a, b) :: m)
    else if k = a then (if v = unlisted then m else (k, v) :: m)
    else (a, b) :: Memory.set m k v

/-- The regions (R87). -/
inductive Region where
  | bios | ewram | iwram | io | pal | vram | oam | rom | sram
  deriving DecidableEq, Repr

/-- A region's first address (R87): its backing bytes stand in memory from there on (log 9). -/
def Region.base : Region → Nat
  | .bios => 0x00000000
  | .ewram => 0x02000000
  | .iwram => 0x03000000
  | .io => 0x04000000
  | .pal => 0x05000000
  | .vram => 0x06000000
  | .oam => 0x07000000
  | .rom => 0x08000000
  | .sram => 0x0E000000

/-- The writable flag (R87). -/
def Region.writable : Region → Bool
  | .bios => false
  | .rom => false
  | .ewram | .iwram | .io | .pal | .vram | .oam | .sram => true

/-- What the transform answers (R88): a region and a local index, unmapped, or an I/O address above the window. -/
inductive Loc where
  | mapped (r : Region) (l : Nat)
  | unmapped
  | outOfWindow
  deriving DecidableEq, Repr

/-- The video region's local index (R97). -/
def vramLocal (c : Config) (n : Nat) : Nat :=
  let v := n % 0x20000
  if 0x18000 ≤ v then (v - 0x18000) + (match c.vramTail with | .base00000 => 0 | .base10000 => 0x10000) else v

/-- `transform` (R88). -/
def transform (c : Config) (a : Word) : Loc :=
  let n := a.toNat
  match n / 0x1000000 with
  | 0x00 => if n ≤ 0x3FFF then .mapped .bios n else .unmapped
  | 0x02 => .mapped .ewram (n % 0x40000)
  | 0x03 => .mapped .iwram (n % 0x8000)
  | 0x04 => if n ≤ c.ioWindowLast then .mapped .io (n - 0x04000000) else .outOfWindow
  | 0x05 => .mapped .pal (n % 0x400)
  | 0x06 => .mapped .vram (vramLocal c n)
  | 0x07 => .mapped .oam (n % 0x400)
  | 0x08 | 0x09 | 0x0A | 0x0B | 0x0C | 0x0D =>
    if n % 0x2000000 < c.romSize then .mapped .rom (n % 0x2000000) else .unmapped
  | 0x0E | 0x0F => if n % 0x10000 < c.sramSize then .mapped .sram (n % 0x10000) else .unmapped
  | _ => .unmapped

/-- `read_byte` (R88). Under `IO_OOW_POLICY = fault` an instruction asks `accessFaults` first. -/
def readByte (c : Config) (m : Memory) (a : Word) : Byte :=
  match transform c a with
  | .mapped r l => m.get (r.base + l)
  | .unmapped => 0
  | .outOfWindow => 0

/-- `io_write_byte` (R98): IF is cleared where ones are written, every other byte is stored. -/
def ioWriteByte (m : Memory) (l : Nat) (b : Byte) : Memory :=
  if l = 0x202 ∨ l = 0x203 then m.set (Region.io.base + l) (m.get (Region.io.base + l) &&& ~~~b)
  else m.set (Region.io.base + l) b

/-- `write_byte` (R89): writes to BIOS, ROM and addresses of no region are discarded. -/
def writeByte (c : Config) (m : Memory) (a : Word) (b : Byte) : Memory :=
  match transform c a with
  | .mapped .io l => ioWriteByte m l b
  | .mapped r l => if r.writable then m.set (r.base + l) b else m
  | .unmapped => m
  | .outOfWindow => m

/-- `read8` (R82). -/
def State.read8 (s : State) (a : Word) : Byte := readByte s.cfg s.mem a

/-- `read16` (R82): the byte at the higher address is the more significant. -/
def State.read16 (s : State) (a : Word) : Half := s.read8 (a + 1) ++ s.read8 a

/-- `read32` (R82). -/
def State.read32 (s : State) (a : Word) : Word := s.read8 (a + 3) ++ s.read8 (a + 2) ++ s.read8 (a + 1) ++ s.read8 a

/-- The addresses of an access's bytes, lowest first, modulo 2^32 (R82). -/
def byteAddrs (a : Word) : Width → List Word
  | .w8 => [a]
  | .w16 => [a, a + 1]
  | .w32 => [a, a + 1, a + 2, a + 3]

/-- Whether an access raises `Fault(IoOutOfWindow)`: some byte of it lies above the window and the policy is `fault` (R95).
The fault comes "before the access changes anything". -/
def accessFaults (c : Config) (a : Word) (w : Width) : Bool :=
  decide (c.oow = .fault) && (byteAddrs a w).any fun b => decide (transform c b = .outOfWindow)

/-- Whether an address lies in the I/O window (R94). -/
def inWindow (c : Config) (a : Word) : Bool :=
  match transform c a with
  | .mapped .io _ => true
  | _ => false

/-- The window's backing bytes (R96), those of them that are not `unlisted` (log 10). -/
def ioSnapshot (c : Config) (m : Memory) : List Host.Cell :=
  m.filter fun x => decide (Region.io.base ≤ x.1) && decide (x.1 ≤ c.ioWindowLast)

/-- The I/O write hook (R96): one event after a write whose address lies in the window. -/
def State.hook (s : State) (w : Width) (a v : Word) : State :=
  if inWindow s.cfg a then { s with ioEvents := s.ioEvents ++ [⟨w, a, v, ioSnapshot s.cfg s.mem⟩] } else s

/-- Memory replaced. -/
def State.setMem (s : State) (m : Memory) : State := { s with mem := m }

/-- `write8` (R82) and its hook. -/
def State.write8 (s : State) (a : Word) (v : Byte) : State :=
  (s.setMem (writeByte s.cfg s.mem a v)).hook .w8 a (v.setWidth 32)

/-- The memory `write16` leaves (R82): lowest address first. -/
def writeHalf (c : Config) (m : Memory) (a : Word) (v : Half) : Memory :=
  writeByte c (writeByte c m a (v.extractLsb' 0 8)) (a + 1) (v.extractLsb' 8 8)

/-- The memory `write32` leaves (R82): lowest address first. -/
def writeWord (c : Config) (m : Memory) (a v : Word) : Memory :=
  writeByte c (writeByte c (writeByte c (writeByte c m a (v.extractLsb' 0 8)) (a + 1) (v.extractLsb' 8 8))
    (a + 2) (v.extractLsb' 16 8)) (a + 3) (v.extractLsb' 24 8)

/-- `write16` and its hook. -/
def State.write16 (s : State) (a : Word) (v : Half) : State :=
  (s.setMem (writeHalf s.cfg s.mem a v)).hook .w16 a (v.setWidth 32)

/-- `write32` and its hook. -/
def State.write32 (s : State) (a v : Word) : State := (s.setMem (writeWord s.cfg s.mem a v)).hook .w32 a v

/-! ## The cycle model (R120 to R122, 70_reset_and_hazards.md R590) -/

/-- The cost of one access in a region (R120). -/
def rowCost (r : CostRow) : Width → Seq → Nat
  | .w8, .n => r.n8
  | .w8, .s => r.s8
  | .w16, .n => r.n16
  | .w16, .s => r.s16
  | .w32, .n => r.n32
  | .w32, .s => r.s32

/-- The row of a top address byte (R120). -/
def tableRow (t : CostTable) (top : Nat) : CostRow :=
  match top with
  | 0x00 => t.bios
  | 0x02 => t.ewram
  | 0x03 => t.iwram
  | 0x04 => t.io
  | 0x05 => t.pal
  | 0x06 => t.vram
  | 0x07 => t.oam
  | 0x08 => t.top08
  | 0x09 => t.top09
  | 0x0A => t.top0A
  | 0x0B => t.top0B
  | 0x0C => t.top0C
  | 0x0D => t.top0D
  | 0x0E => t.top0E
  | 0x0F => t.top0F
  | _ => flatRow

/-- The table of a kind of access (R121). -/
def State.costs (s : State) : Kind → CostTable
  | .code => s.costCode
  | .data => s.costData

/-- The cycles of one access (R121). -/
def State.costOf (s : State) (k : Kind) (q : Seq) (w : Width) (a : Word) : Nat :=
  rowCost (tableRow (s.costs k) (a.toNat / 0x1000000)) w q

/-- `Internal(n)` (R122): both counters advance together (R52). -/
def State.internal (s : State) (n : Nat) : State :=
  { s with cycles := s.cycles + BitVec.ofNat 64 n, sched := s.sched + BitVec.ofNat 64 n }

/-- `Charge(kind, seq, width, addr)` (R121). -/
def State.charge (s : State) (k : Kind) (q : Seq) (w : Width) (a : Word) : State := s.internal (s.costOf k q w a)

/-- The width of a fetch in the current state (R590). -/
def State.fw (s : State) : Width := if s.thumb then .w16 else .w32

/-- `pc_next` at its start value, the following instruction (R35). -/
def State.advance (s : State) : State := s.setPc (s.pc + s.ilen)

/-- `Sc` (R590) and the advance of `pc_next`: what every instruction but a store does first, and all a skipped one does (R582). -/
def State.fetched (s : State) : State := (s.charge .code .s s.fw s.pc).advance

/-- `refill(pc_next)` (R590): N and S at the new `pc_next`, at the width of the state after the instruction. -/
def State.refill (s : State) : State := (s.charge .code .n s.fw s.pc).charge .code .s s.fw s.pc

/-- `Nnext` (R590): the fetch after a store. -/
def State.nnext (s : State) : State := s.charge .code .n s.fw s.pc

/-! ## Exceptions (60_exceptions.md R520 to R537) -/

/-- The exceptions entered by R530. Reset is no entry (R570). -/
inductive Exc where
  | undefined | softwareInterrupt | prefetchAbort | dataAbort | irq | fiq
  deriving DecidableEq, Repr

/-- The vector (R520). -/
def Exc.vector : Exc → Word
  | .undefined => 0x00000004
  | .softwareInterrupt => 0x00000008
  | .prefetchAbort => 0x0000000C
  | .dataAbort => 0x00000010
  | .irq => 0x00000018
  | .fiq => 0x0000001C

/-- The target mode (R520). -/
def Exc.mode : Exc → Mode
  | .undefined => .und
  | .softwareInterrupt => .svc
  | .prefetchAbort => .abt
  | .dataAbort => .abt
  | .irq => .irq
  | .fiq => .fiq

/-- Whether entry sets F (R520). -/
def Exc.setsF : Exc → Bool
  | .fiq => true
  | .undefined | .softwareInterrupt | .prefetchAbort | .dataAbort | .irq => false

/-- The CPSR after entry (R530): the target mode, T = 0, I = 1, and F = 1 where the table sets it. -/
def Exc.cpsr (e : Exc) (old : Word) : Word :=
  let w := putBit (putBit (withMode old e.mode) 5 false) 7 true
  if e.setsF then putBit w 6 true else w

/-- Exception entry, `raise e(return = ret)` (R530). -/
def State.enter (s : State) (e : Exc) (ret : Word) : State :=
  { s with
    spsr := s.spsr.set e.mode s.cpsr
    cpsr := e.cpsr s.cpsr
    regs := (s.regs.set (phys e.mode 14) ret).set .r15 e.vector }

/-- An exception raised by the instruction executing (R380, R390, R501): its fetch, the entry with the following instruction's address as
the link, the refill at the vector (R597). -/
def State.trap (s : State) (e : Exc) : State := (s.fetched.enter e (s.pc + s.ilen)).refill

/-- Where a return to `v` goes, from T = `old` to T = `new`: aligned for the restored T bit alone, or first for the T bit before the restore
(R259, R357, R501, R535; log 4). -/
def returnPc (r : ReturnAlign) (old new : Bool) (v : Word) : Word :=
  match r with
  | .restored => alignPc new v
  | .stepwise => alignPc new (alignPc old v)

/-- The return from an exception (41_arm_data_processing.md R259, 43_arm_load_store.md R357): CPSR from the SPSR of the current mode, a
branch to `target` aligned as `r` says, the refill. A `ModeError` leaves `stuck`, the state at that point of the instruction (log 7). -/
def State.exceptionReturn (s stuck : State) (r : ReturnAlign) (target : Word) : Result :=
  match s.loadCpsr with
  | .error f => stuck.stop f
  | .ok t => .next (t.setPc (returnPc r s.thumb t.thumb target)).refill

/-! ## The gates of an instruction -/

/-- The first UNPREDICTABLE case that holds. -/
def firstCase : List (Bool × Unpred) → Option Unpred
  | [] => none
  | (b, u) :: l => if b then some u else firstCase l

/-- The UNPREDICTABLE cases of an instruction (00_scope.md R10, 93_implementation_defined.md section 2): under `fault` the first that holds
stops the model before any state changes, under `arm7tdmi` the instruction runs as its rule says. -/
def State.guarded (s : State) (cases : List (Bool × Unpred)) (k : Result) : Result :=
  match s.cfg.unpredictable, firstCase cases with
  | .fault, some u => s.stop (.unpredictable u)
  | _, _ => k

/-- A memory access that may lie above the I/O window (R95): the fault comes before it changes anything, and before it is charged (log 7). -/
def State.access (s : State) (a : Word) (w : Width) (k : Result) : Result :=
  if accessFaults s.cfg a w then s.stop .ioOutOfWindow else k

/-- An undefined encoding (44_arm_branch_system.md R390, R583). -/
def State.undefinedEncoding (s : State) : Result :=
  match s.cfg.undef with
  | .nop => .next s.fetched
  | .trap => .next (s.trap .undefined)

/-! ## Fetch and interrupts (70_reset_and_hazards.md R580, R581) -/

/-- The code at the program counter, of the width the T bit selects (R41, R130). -/
def State.fetchCode (s : State) : Code := if s.thumb then .thumb (s.read16 s.pc) else .arm (s.read32 s.pc)

/-- The IRQ request line (R540). -/
def State.irqLine (s : State) : Bool :=
  let ie := s.read16 0x04000200
  let if' := s.read16 0x04000202
  let ime := s.read16 0x04000208
  ime.getLsbD 0 && decide ((ie &&& if').extractLsb' 0 14 ≠ 0)

/-- `FIQ_LINE` at this step: the head of its coming values, low when there is none (R541, log 6). -/
def State.fiqNow (s : State) : Bool := s.fiqLine.headD false

/-- The interrupt a step takes before its fetch, if any (R545): FIQ with F = 0, then IRQ with I = 0. -/
def State.taken (s : State) : Option Exc :=
  if s.fiqNow && !s.maskF then some .fiq else if s.irqLine && !s.maskI then some .irq else none

/-- The step's inputs taken: the FIQ line's value of this step and the number of its draws (R580; log 5, log 6). -/
def State.takeInputs (s : State) : State := { s with fiqLine := s.fiqLine.tail, draws := s.draws + 1 }

/-- An interrupt taken before a fetch (R540, R541, R580, R597): the charge of the fetch not executed, the entry with its address plus 4 as
the link, the refill at the vector. -/
def State.interrupt (s : State) (e : Exc) : State := ((s.charge .code .s s.fw s.pc).enter e (s.pc + 4)).refill

/-- The bytes of a code stored at backing addresses from `k` on, whatever the region's writable flag. -/
def Memory.store (m : Memory) (k : Nat) : List Byte → Memory
  | [] => m
  | b :: bs => (m.set k b).store (k + 1) bs

/-- The backing address of a mapped address. -/
def backing (c : Config) (a : Word) : Option Nat :=
  match transform c a with
  | .mapped r l => some (r.base + l)
  | .unmapped => none
  | .outOfWindow => none

/-- A code placed where the next fetch reads it, as an image supplied before reset would place it (log 3): its bytes in the backing store at
the program counter, and the T bit that selects its decode table. -/
def State.placeCode (s : State) (c : Code) : State :=
  let t := { s with cpsr := putBit s.cpsr 5 (match c with | .arm _ => false | .thumb _ => true) }
  match backing s.cfg s.pc with
  | some k => t.setMem (t.mem.store k c.bytes)
  | none => t

end Sys2Proof.Machine
end

