-- ==== Sys2Proof/Machine/Flags.lean ====
section
/-! DEFINITION. The adder, the flag rules and the condition evaluator (40_shifter_alu_cond.md R215 to R231), the sixteen operations
(41_arm_data_processing.md R253, R254) and the multiply flags (42_arm_multiply.md R309). -/

namespace Sys2Proof.Machine

/-- A 32-bit result with the carry and the overflow that go with it. -/
structure Alu where
  result : Word
  c : Bool
  v : Bool
  deriving DecidableEq, Repr

/-- `AddWithCarry` (R215): both sums over the integers, narrowed at the end. -/
def addWithCarry (a b : Word) (cin : Bool) : Alu :=
  let usum := a.toNat + b.toNat + cin.toNat
  let ssum := a.toInt + b.toInt + (cin.toNat : Int)
  let r := BitVec.ofNat 32 usum
  ⟨r, decide (2 ^ 32 ≤ usum), decide (ssum ≠ r.toInt)⟩

/-- `N` of a 32-bit result (R219). -/
def negOf (r : Word) : Bool := r.getLsbD 31

/-- `Z` of a 32-bit result (R219). -/
def zeroOf (r : Word) : Bool := decide (r = 0)

/-- `ConditionPassed` on the four flags (R230). -/
def conditionHolds (cond : Cond) (n z c v : Bool) : Bool :=
  match cond with
  | .eq => z
  | .ne => !z
  | .cs => c
  | .cc => !c
  | .mi => n
  | .pl => !n
  | .vs => v
  | .vc => !v
  | .hi => c && !z
  | .ls => !c || z
  | .ge => n == v
  | .lt => n != v
  | .gt => !z && n == v
  | .le => z || n != v
  | .al => true
  | .nv => false

/-- `ConditionPassed` (R230, R231). -/
def State.passes (s : State) (cond : Cond) : Bool := conditionHolds cond s.flagN s.flagZ s.flagC s.flagV

/-- The execute-or-skip gate of an ARM instruction (00_scope.md R17, 70_reset_and_hazards.md R582): a skipped one only advances. -/
def State.gate (s : State) (cond : Cond) (k : Result) : Result := if s.passes cond then k else .next s.fetched

/-- N and Z of a result, with C and V as given (R220, R221). -/
def State.flagsOf (s : State) (r : Word) (c v : Bool) : State := s.writeFlags (negOf r) (zeroOf r) c v

/-- N, Z, C and V of an operation's result (R221; R220 with `c` the shifter carry and `v` the old V). -/
def State.aluFlags (s : State) (o : Alu) : State := s.flagsOf o.result o.c o.v

/-- The sixteen operations (R217, R218). -/
inductive DpOp where
  | and | eor | sub | rsb | add | adc | sbc | rsc | tst | teq | cmp | cmn | orr | mov | bic | mvn
  deriving DecidableEq, Repr

/-- A logical operation's result (R220, R253): C is the shifter carry, V the old V. -/
def logicalOut (r : Word) (shiftCarry oldV : Bool) : Alu := ⟨r, shiftCarry, oldV⟩

/-- What an operation computes (R217, R218, R253, R254) from its operands, the shifter carry and the old C and V. -/
def DpOp.compute (op : DpOp) (op1 op2 : Word) (shiftCarry oldC oldV : Bool) : Alu :=
  match op with
  | .and | .tst => logicalOut (op1 &&& op2) shiftCarry oldV
  | .eor | .teq => logicalOut (op1 ^^^ op2) shiftCarry oldV
  | .orr => logicalOut (op1 ||| op2) shiftCarry oldV
  | .bic => logicalOut (op1 &&& ~~~op2) shiftCarry oldV
  | .mov => logicalOut op2 shiftCarry oldV
  | .mvn => logicalOut (~~~op2) shiftCarry oldV
  | .add | .cmn => addWithCarry op1 op2 false
  | .adc => addWithCarry op1 op2 oldC
  | .sub | .cmp => addWithCarry op1 (~~~op2) true
  | .sbc => addWithCarry op1 (~~~op2) oldC
  | .rsb => addWithCarry op2 (~~~op1) true
  | .rsc => addWithCarry op2 (~~~op1) oldC

/-- The operation on the flags a state has. -/
def State.compute (s : State) (op : DpOp) (op1 : Word) (op2 : Word × Bool) : Alu :=
  op.compute op1 op2.1 op2.2 s.flagC s.flagV

/-- The flags of MULS and MLAS (R309, 32-bit row): C is this step's draw, V is kept. -/
def State.mulFlags (s : State) (r : Word) : State := s.flagsOf r (Config.mulC s.draws) s.flagV

/-- The flags of a long multiply with S = 1 (R309, 64-bit row): C and V are this step's draws. -/
def State.longMulFlags (s : State) (p : DWord) : State :=
  s.writeFlags (p.getLsbD 63) (decide (p = 0)) (Config.mulC s.draws) (Config.mulV s.draws)

end Sys2Proof.Machine
end

