-- ==== Sys2Proof/Machine/Operands.lean ====
section
/-! DEFINITION. The barrel shifter (40_shifter_alu_cond.md R200 to R210), operand 2 (41_arm_data_processing.md R250), the addresses of
single and block transfers (43_arm_load_store.md R320, R335, R345), what a load returns and what a store writes (R322 to R339), and the
offsets of branches (30_encoding.md R148). -/

namespace Sys2Proof.Machine

/-! ## The barrel shifter -/

/-- `ROR(v, n)`, the bare rotation by n modulo 32 (R210, 00_scope.md R16). -/
def ror (v : Word) (n : Nat) : Word := (v >>> (n % 32)) ||| (v <<< (32 - n % 32))

/-- The sign fill (R205). -/
def signFill (v : Word) : Word := if v.getLsbD 31 then 0xFFFFFFFF else 0

/-- `Shift(type, v, n, imm, cin)` (R201, R203, R205, R207). -/
def shiftImm (ty : ShiftType) (v : Word) (n : BitVec 5) (cin : Bool) : Word × Bool :=
  let k := n.toNat
  match ty with
  | .lsl => if k = 0 then (v, cin) else (v <<< k, v.getLsbD (32 - k))
  | .lsr => if k = 0 then (0, v.getLsbD 31) else (v >>> k, v.getLsbD (k - 1))
  | .asr => if k = 0 then (signFill v, v.getLsbD 31) else (v.sshiftRight k, v.getLsbD (k - 1))
  | .ror => if k = 0 then ((v >>> 1) ||| (if cin then 0x80000000 else 0), v.getLsbD 0) else (ror v k, v.getLsbD (k - 1))

/-- `Shift(type, v, a, reg, cin)` (R202, R204, R206, R208), the amount a byte. -/
def shiftReg (ty : ShiftType) (v : Word) (a : Byte) (cin : Bool) : Word × Bool :=
  let k := a.toNat
  if k = 0 then (v, cin) else
  match ty with
  | .lsl => if k < 32 then (v <<< k, v.getLsbD (32 - k)) else if k = 32 then (0, v.getLsbD 0) else (0, false)
  | .lsr => if k < 32 then (v >>> k, v.getLsbD (k - 1)) else if k = 32 then (0, v.getLsbD 31) else (0, false)
  | .asr => if k < 32 then (v.sshiftRight k, v.getLsbD (k - 1)) else (signFill v, v.getLsbD 31)
  | .ror => if k % 32 = 0 then (v, v.getLsbD 31) else (ror v (k % 32), v.getLsbD (k % 32 - 1))

/-- The rotated immediate (R209). -/
def rotateImm (o : RotImm) (cin : Bool) : Word × Bool :=
  let r := ror (o.imm8.setWidth 32) (2 * o.rot.toNat)
  (r, if o.rot = 0 then cin else r.getLsbD 31)

/-- The low byte of a register (30_encoding.md R146). -/
def lowByte (v : Word) : Byte := v.extractLsb' 0 8

/-! ## Operand 2 (R250, R251) -/

/-- The immediate form. -/
def State.op2Imm (s : State) (o : RotImm) : Word × Bool := rotateImm o s.flagC

/-- The immediate-shift form: R15 reads pc_cur + 8. -/
def State.op2Shift (s : State) (o : ImmShift) : Word × Bool := shiftImm o.ty (s.reg o.rm) o.amt s.flagC

/-- The register-shift form: R15 reads as `PC_REGSHIFT_STORE_READ` says. -/
def State.op2RegShift (s : State) (o : RegShift) : Word × Bool :=
  shiftReg o.ty (s.regLate o.rm) (lowByte (s.regLate o.rs)) s.flagC

/-! ## Addresses -/

/-- A word access's address (20_memory.md R85). -/
def alignWord (a : Word) : Word := a &&& 0xFFFFFFFC#32

/-- A halfword access's address (R85). -/
def alignHalf (a : Word) : Word := a &&& 0xFFFFFFFE#32

/-- `offaddr` (R320): the U bit adds or subtracts the offset. -/
def offAddr (up : Bool) (base offset : Word) : Word := if up then base + offset else base - offset

/-- `addr` (R320): pre-indexed or post-indexed. -/
def effAddr (m : Idx) (base offset : Word) : Word := if m.p then offAddr m.u base offset else base

/-- `wback` (R320): "post-indexing always writes back". A halfword transfer with P = 0 and W = 1 is treated as P = 0 (R335). -/
def backs (m : Idx) : Bool := !m.p || m.w

/-- A 12-bit immediate offset (R320). -/
def offset12 (off : BitVec 12) : Word := off.setWidth 32

/-- An 8-bit immediate offset (R335). -/
def offset8 (off : BitVec 8) : Word := off.setWidth 32

/-- A scaled register offset (R320): the shifter's value, its carry discarded. -/
def State.scaled (s : State) (o : ImmShift) : Word := (s.op2Shift o).1

/-- The write-back of a base register. -/
def State.writeBack (s : State) (wb : Bool) (rn : Reg) (v : Word) : State := if wb then s.setReg rn v else s

/-! ## What a load returns and what a store writes -/

/-- The five loads (R322, R323, R336, R337, R339). -/
inductive LoadKind where
  | word | byte | half | sbyte | shalf
  deriving DecidableEq, Repr

/-- The address a load issues (R85); a misaligned signed halfword load is a load of the byte (R339). -/
def LoadKind.addr (k : LoadKind) (a : Word) : Word :=
  match k with
  | .word => alignWord a
  | .half => alignHalf a
  | .byte | .sbyte | .shalf => a

/-- The width of a load's access (DEDUCED for a misaligned signed halfword load, log 14). -/
def LoadKind.width (k : LoadKind) (a : Word) : Width :=
  match k with
  | .word => .w32
  | .half => .w16
  | .byte | .sbyte => .w8
  | .shalf => if a.getLsbD 0 then .w8 else .w16

/-- `ROR(read32(a & 0xFFFFFFFC), 8 * UInt(a[1:0]))` (R322). -/
def State.loadWord (s : State) (a : Word) : Word := ror (s.read32 (alignWord a)) (8 * (a.toNat % 4))

/-- `ROR(zext_32(read16(a & 0xFFFFFFFE)), 8 * UInt(a[0]))` (R336). -/
def State.loadHalf (s : State) (a : Word) : Word := ror ((s.read16 (alignHalf a)).setWidth 32) (8 * (a.toNat % 2))

/-- The value loaded from an address as the instruction computes it (R322, R323, R336, R337, R339). -/
def State.loadValue (s : State) (k : LoadKind) (a : Word) : Word :=
  match k with
  | .word => s.loadWord a
  | .byte => (s.read8 a).setWidth 32
  | .half => s.loadHalf a
  | .sbyte => (s.read8 a).signExtend 32
  | .shalf => if a.getLsbD 0 then (s.read8 a).signExtend 32 else (s.read16 a).signExtend 32

/-- The three stores (R325, R326, R338). -/
inductive StoreKind where
  | word | byte | half
  deriving DecidableEq, Repr

/-- The address a store issues (R85). -/
def StoreKind.addr (k : StoreKind) (a : Word) : Word :=
  match k with
  | .word => alignWord a
  | .half => alignHalf a
  | .byte => a

/-- The width of a store's access. -/
def StoreKind.width : StoreKind → Width
  | .word => .w32
  | .half => .w16
  | .byte => .w8

/-- The write of a store (R325, R326, R338). -/
def State.storeValue (s : State) (k : StoreKind) (a v : Word) : State :=
  match k with
  | .word => s.write32 (alignWord a) v
  | .half => s.write16 (alignHalf a) (v.setWidth 16)
  | .byte => s.write8 a (v.setWidth 8)

/-- A single load (R320, R594): the data access, the fetch and one internal cycle; the write-back, then Rd. -/
def State.load (s : State) (k : LoadKind) (a : Word) (rd : Reg) (wb : Bool) (rn : Reg) (back : Word) : Result :=
  s.access (k.addr a) (k.width a) (
    let t := ((s.charge .data .n (k.width a) (k.addr a)).fetched.internal 1).writeBack wb rn back
    let u := t.setReg rd (s.loadValue k a)
    .next (if rd = 15 then u.refill else u))

/-- A single store (R320, R594): the data access, the write, the write-back, then the fetch that follows a store. -/
def State.store (s : State) (k : StoreKind) (a v : Word) (wb : Bool) (rn : Reg) (back : Word) : Result :=
  s.access (k.addr a) k.width (
    .next (((((s.charge .data .n k.width (k.addr a)).advance).storeValue k a v).writeBack wb rn back).nnext))

/-! ## Block transfers (R345, R595) -/

/-- The registers of a sixteen-bit list, in increasing number. -/
def regList (list : BitVec 16) : List Reg :=
  ([0, 1, 2, 3, 4, 5, 6, 7, 8, 9, 10, 11, 12, 13, 14, 15] : List Reg).filter fun i => list.getLsbD i.val

/-- The low registers of an eight-bit list, in increasing number (46_thumb_load_store.md R470 to R473). -/
def lowList (list : BitVec 8) : List Reg := regList (list.setWidth 16)

/-- `4n` (R345). -/
def blockBytes (rs : List Reg) : Word := BitVec.ofNat 32 (4 * rs.length)

/-- `start` (R345). -/
def blockStart (m : Idx) (base : Word) (rs : List Reg) : Word :=
  match m.p, m.u with
  | false, true => base
  | true, true => base + 4
  | false, false => base - blockBytes rs + 4
  | true, false => base - blockBytes rs

/-- The write-back value (R345). -/
def blockBase (m : Idx) (base : Word) (rs : List Reg) : Word := offAddr m.u base (blockBytes rs)

/-- The transfers of a block: each register with its word's address, used as `a & 0xFFFFFFFC` (R345). -/
def blockPairs : Word → List Reg → List (Reg × Word)
  | _, [] => []
  | a, r :: rs => (r, alignWord a) :: blockPairs (a + 4) rs

/-- The charges of a block's data accesses (R595): the first non-sequential, the rest sequential. -/
def State.chargeBlock (s : State) (q : Seq) : List (Reg × Word) → State
  | [] => s
  | (_, a) :: ps => (s.charge .data q .w32 a).chargeBlock .s ps

/-- Whether some word of a block lies above the I/O window under `IO_OOW_POLICY = fault` (20_memory.md R95). -/
def blockFaults (c : Config) (ps : List (Reg × Word)) : Bool := ps.any fun x => accessFaults c x.2 .w32

/-- The words of a block accessed before the first that lies above the window. -/
def blockReached (c : Config) (ps : List (Reg × Word)) : List (Reg × Word) := ps.takeWhile fun x => !accessFaults c x.2 .w32

/-- A block access: where a word lies above the window, the words before it have been accessed, and `stuck` is the state they leave
(R95, 70_reset_and_hazards.md R580; log 19). -/
def State.accessBlock (s : State) (ps : List (Reg × Word)) (stuck : List (Reg × Word) → State) (k : Result) : Result :=
  if blockFaults s.cfg ps then (stuck (blockReached s.cfg ps)).stop .ioOutOfWindow else k

/-- `R[i] <- v`, or `Ruser[i] <- v` in a user-bank transfer (R356). -/
def State.putReg (s : State) (user : Bool) (i : Reg) (v : Word) : State := if user then s.setUserReg i v else s.setReg i v

/-- `R[i]`, or `Ruser[i]`, as a store-multiple stores it: register 15 as `PC_REGSHIFT_STORE_READ` says (R352, R356). -/
def State.getReg (s : State) (user : Bool) (i : Reg) : Word :=
  if i = 15 then s.regLate 15 else if user then s.userReg i else s.reg i

/-- The loads of a block, in order, into a state's registers (R347). No load changes memory. -/
def State.loadRegs (s : State) (user : Bool) : List (Reg × Word) → State
  | [] => s
  | (r, a) :: ps => (s.putReg user r (s.read32 a)).loadRegs user ps

/-- The writes of a block, in order (R350). -/
def State.storeWords (s : State) : List (Word × Word) → State
  | [] => s
  | (a, v) :: ps => (s.write32 a v).storeWords ps

/-- What a block load has done when it has loaded the words `ps`: their charges, the write-back where `early` puts it before them, and them. -/
def State.loadReached (s : State) (user early : Bool) (rn : Reg) (back : Word) (ps : List (Reg × Word)) : State :=
  ((s.chargeBlock .n ps).writeBack early rn back).loadRegs user ps

/-- A block load (R347, R348, R349, R595; 46_thumb_load_store.md R471, R473). `early`: the write-back comes before the loads (R347), and not
after them (R471, R473), which only a fault between them can tell apart. -/
def State.loadBlock (s : State) (user early : Bool) (start : Word) (rs : List Reg) (wb : Bool) (rn : Reg) (back : Word) : Result :=
  let ps := blockPairs start rs
  s.accessBlock ps (s.loadReached user (wb && early) rn back) (
    let t := (((s.chargeBlock .n ps).fetched.internal 1).writeBack wb rn back).loadRegs user ps
    .next (if (15 : Reg) ∈ rs then t.refill else t))

/-- The value a store-multiple stores for a register (R350, R351): the write-back value for a base that is written back and is not the
lowest in the list. -/
def State.storedReg (s : State) (user : Bool) (rs : List Reg) (wb : Bool) (rn : Reg) (back : Word) (i : Reg) : Word :=
  if i ≠ 15 ∧ i = rn ∧ wb = true ∧ rs.head? ≠ some i then back else s.getReg user i

/-- The words a block store writes, each with its address. -/
def State.storedWords (s : State) (user : Bool) (rs : List Reg) (wb : Bool) (rn : Reg) (back : Word) (ps : List (Reg × Word)) :
    List (Word × Word) :=
  ps.map fun x => (x.2, s.storedReg user rs wb rn back x.1)

/-- A block store (R350, R351, R352, R595; 46_thumb_load_store.md R470, R472). `early`: the write-back comes before the stores (R470), and not
after them (R350, R472), which only a fault between them can tell apart. -/
def State.storeBlock (s : State) (user early : Bool) (start : Word) (rs : List Reg) (wb : Bool) (rn : Reg) (back : Word) : Result :=
  let ps := blockPairs start rs
  s.accessBlock ps
    (fun ps => ((s.chargeBlock .n ps).storeWords (s.storedWords user rs wb rn back ps)).writeBack (wb && early) rn back)
    (.next ((((s.chargeBlock .n ps).advance.storeWords (s.storedWords user rs wb rn back ps)).writeBack wb rn back).nnext))

/-! ## Multiplier cycles (70_reset_and_hazards.md R593) -/

/-- Whether the bits of `x` from `k` up are all 0. -/
def topZero (x : Word) (k : Nat) : Bool := decide (x >>> k = 0)

/-- Whether the bits of `x` from `k` up are all 0 or all 1. -/
def topSame (x : Word) (k : Nat) : Bool := topZero x k || topZero (~~~x) k

/-- `m_s`. -/
def mulCyclesSigned (x : Word) : Nat :=
  if topSame x 8 then 1 else if topSame x 16 then 2 else if topSame x 24 then 3 else 4

/-- `m_u`. -/
def mulCyclesUnsigned (x : Word) : Nat :=
  if topZero x 8 then 1 else if topZero x 16 then 2 else if topZero x 24 then 3 else 4

/-! ## Branch offsets (30_encoding.md R148) -/

/-- `sext_32(off : 0b00)`. -/
def branchOffset24 (off : BitVec 24) : Word := off.signExtend 32 <<< 2

/-- `sext_32(off : 0b0)` of eight bits (47_thumb_branch.md R500). -/
def branchOffset8 (off : BitVec 8) : Word := off.signExtend 32 <<< 1

/-- `sext_32(off : 0b0)` of eleven bits (R502). -/
def branchOffset11 (off : BitVec 11) : Word := off.signExtend 32 <<< 1

/-- `sext_32(off : 0x000)`, the high half of a BL offset (R510). -/
def blOffsetHi (off : BitVec 11) : Word := off.signExtend 32 <<< 12

/-- `zext_32(off : 0b0)`, the low half of a BL offset (R511). -/
def blOffsetLo (off : BitVec 11) : Word := off.setWidth 32 <<< 1

/-- A branch taken by `B` and its like (R597): the fetch, the new pc_next, the refill. -/
def State.jump (s : State) (target : Word) : State := (s.fetched.setPc target).refill

/-- `BX` (44_arm_branch_system.md R376): T from bit 0 of the target, pc_next aligned for it, the refill at the new width. -/
def State.exchange (s : State) (t : Word) : State :=
  let u := s.fetched
  (({ u with cpsr := putBit u.cpsr 5 (t.getLsbD 0) } : State).branch t).refill

/-- The scaled immediates of the 16-bit encoding (30_encoding.md R155): `zext_32(v : 0b00)`. -/
def times4 {n : Nat} (v : BitVec n) : Word := v.setWidth 32 <<< 2

/-- `zext_32(v : 0b0)`. -/
def times2 {n : Nat} (v : BitVec n) : Word := v.setWidth 32 <<< 1

/-- The word-aligned program counter value of 45_thumb_alu.md R433 and 46_thumb_load_store.md R452. -/
def State.pcWord (s : State) : Word := (s.pc + 4) &&& 0xFFFFFFFC#32

end Sys2Proof.Machine
end

