-- ==== Sys2Proof/Machine/ArmBlock.lean ====
section
/-! DEFINITION. The block transfers (43_arm_load_store.md R345 to R357, 70_reset_and_hazards.md R595). -/

namespace Sys2Proof.Machine

/-- The UNPREDICTABLE cases of every block transfer (R346). -/
def blockCases (rn : Reg) (list : BitVec 16) : List (Bool × Unpred) :=
  [(decide (rn = 15), .ldmRn15), (decide (list = 0), .ldmEmpty)]

/-- The UNPREDICTABLE cases of a user-bank transfer (R346). -/
def State.userCases (s : State) (m : Idx) : List (Bool × Unpred) :=
  [(decide (s.mode = .usr), .ldmUserInUsr), (m.w, .ldmUserWb)]

/-- Whether a block transfer writes its base back: "Rn = 15 uses pc_cur + 8 and does not write back" (R346). -/
def blockBack (m : Idx) (rn : Reg) : Bool := m.w && decide (rn ≠ 15)

/-- A load-multiple with its addressing (R345). -/
def State.ldmIdx (s : State) (user : Bool) (m : Idx) (rn : Reg) (list : BitVec 16) : Result :=
  let rs := regList list
  s.loadBlock user true (blockStart m (s.reg rn) rs) rs (blockBack m rn) rn (blockBase m (s.reg rn) rs)

/-- A store-multiple with its addressing (R345). -/
def State.stmIdx (s : State) (user : Bool) (m : Idx) (rn : Reg) (list : BitVec 16) : Result :=
  let rs := regList list
  s.storeBlock user false (blockStart m (s.reg rn) rs) rs (blockBack m rn) rn (blockBase m (s.reg rn) rs)

/-- The exception-return load (R357): the other registers load as in R347; the last word is the address returned to. In usr and sys mode
the SPSR read stops it "after the last load", whatever the policy (60_exceptions.md R551; log 11, DEDUCED, safe). -/
def State.loadReturn (s : State) (start : Word) (rs : List Reg) (wb : Bool) (rn : Reg) (back : Word) : Result :=
  let ps := blockPairs start rs
  let low := rs.filter fun i => decide (i ≠ 15)
  s.accessBlock ps (s.loadReached false wb rn back) (
    let t := (((s.chargeBlock .n ps).fetched.internal 1).writeBack wb rn back).loadRegs false (blockPairs start low)
    let stuck := ((s.chargeBlock .n ps).writeBack wb rn back).loadRegs false (blockPairs start low)
    t.exceptionReturn stuck s.cfg.ldmReturn (s.read32 (alignWord (start + blockBytes low))))

/-- `LDM_ret` (R357). -/
def execLdmRet (c : Cond) (m : Idx) (rn : Reg) (list : BitVec 16) (s : State) : Result :=
  let rs := regList list
  s.gate c (s.guarded (blockCases rn list)
    (s.loadReturn (blockStart m (s.reg rn) rs) rs (blockBack m rn) rn (blockBase m (s.reg rn) rs)))

/-- `LDM_user` (R356). -/
def execLdmUser (c : Cond) (m : Idx) (rn : Reg) (list : BitVec 16) (s : State) : Result :=
  s.gate c (s.guarded (blockCases rn list ++ s.userCases m) (s.ldmIdx true m rn list))

/-- `STM_user` (R356). -/
def execStmUser (c : Cond) (m : Idx) (rn : Reg) (list : BitVec 16) (s : State) : Result :=
  s.gate c (s.guarded (blockCases rn list ++ s.userCases m) (s.stmIdx true m rn list))

/-- `LDM` (R347, R348, R349). -/
def execLdm (c : Cond) (m : Idx) (rn : Reg) (list : BitVec 16) (s : State) : Result :=
  s.gate c (s.guarded (blockCases rn list) (s.ldmIdx false m rn list))

/-- `STM` (R350, R351, R352). -/
def execStm (c : Cond) (m : Idx) (rn : Reg) (list : BitVec 16) (s : State) : Result :=
  s.gate c (s.guarded (blockCases rn list) (s.stmIdx false m rn list))

end Sys2Proof.Machine
end

