-- ==== Sys2Proof/Machine/ArmBranch.lean ====
section
/-! DEFINITION. The branches, SWI, the coprocessor space and the undefined spaces (44_arm_branch_system.md R370 to R390). -/

namespace Sys2Proof.Machine

/-- `BX` (R376). -/
def execBx (c : Cond) (rm : Reg) (s : State) : Result :=
  s.gate c (s.guarded [(decide (rm = 15), .bxPc), (!(s.reg rm).getLsbD 0 && (s.reg rm).getLsbD 1, .bxArmMisaligned)]
    (.next (s.exchange (s.reg rm))))

/-- `B` (R370). -/
def execB (c : Cond) (off : BitVec 24) (s : State) : Result :=
  s.gate c (.next (s.jump (s.pc + 8 + branchOffset24 off)))

/-- `BL` (R371). -/
def execBl (c : Cond) (off : BitVec 24) (s : State) : Result :=
  s.gate c (.next ((s.fetched.setReg 14 (s.pc + 4)).setPc (s.pc + 8 + branchOffset24 off)).refill)

/-- `SWI` (R380): the comment field is ignored. -/
def execSwi (c : Cond) (_comment : BitVec 24) (s : State) : Result :=
  s.gate c (.next (s.trap .softwareInterrupt))

/-- `UNDEF_mul` (R390). -/
def execUndefMul (c : Cond) (s : State) : Result :=
  s.gate c s.undefinedEncoding

/-- `UNDEF_swp` (R390). -/
def execUndefSwp (c : Cond) (s : State) : Result :=
  s.gate c s.undefinedEncoding

/-- `UNDEF_halfword_store` (R390). -/
def execUndefHalfwordStore (c : Cond) (s : State) : Result :=
  s.gate c s.undefinedEncoding

/-- `UNDEF_misc` (R390). -/
def execUndefMisc (c : Cond) (s : State) : Result :=
  s.gate c s.undefinedEncoding

/-- `UNDEF_imm_cmp` (R390). -/
def execUndefImmCmp (c : Cond) (s : State) : Result :=
  s.gate c s.undefinedEncoding

/-- `UNDEF_media` (R390). -/
def execUndefMedia (c : Cond) (s : State) : Result :=
  s.gate c s.undefinedEncoding

/-- `COPROC_xfer` (R385, R390): there is no coprocessor. -/
def execCoprocXfer (c : Cond) (s : State) : Result :=
  s.gate c s.undefinedEncoding

/-- `COPROC_op` (R385, R390): there is no coprocessor. -/
def execCoprocOp (c : Cond) (s : State) : Result :=
  s.gate c s.undefinedEncoding

end Sys2Proof.Machine
end

