-- ==== Sys2Proof/Machine/ArmDataProc.lean ====
section
/-! DEFINITION. The sixteen data-processing operations in their three operand forms (41_arm_data_processing.md R250 to R275, R591). -/

namespace Sys2Proof.Machine

/-- The write of a result (41_arm_data_processing.md R252, R256, R259, R591), in `t`, the state `s` after the charges: an ordinary register
with the flags when S = 1; register 15 a branch when S = 0, the exception return when S = 1, whose fault leaves `s`. -/
def State.dpWrite (s t : State) (setFlags : Bool) (rd : Reg) (o : Alu) : Result :=
  if rd = 15 then
    if setFlags then t.exceptionReturn s t.cfg.dpReturn o.result else .next (t.branch o.result).refill
  else .next ((if setFlags then t.aluFlags o else t).setReg rd o.result)

/-- `AND_imm` (R260). -/
def execAndImm (c : Cond) (s : Bool) (rn rd : Reg) (o : RotImm) (st : State) : Result :=
  st.gate c (st.dpWrite st.fetched s rd (st.compute .and (st.reg rn) (st.op2Imm o)))

/-- `AND_imm_shift` (R260). -/
def execAndImmShift (c : Cond) (s : Bool) (rn rd : Reg) (o : ImmShift) (st : State) : Result :=
  st.gate c (st.dpWrite st.fetched s rd (st.compute .and (st.reg rn) (st.op2Shift o)))

/-- `AND_reg_shift` (R260). -/
def execAndRegShift (c : Cond) (s : Bool) (rn rd : Reg) (o : RegShift) (st : State) : Result :=
  st.gate c (st.guarded [(decide (rd = 15), .dpRegshiftRd15)]
    (st.dpWrite (st.fetched.internal 1) s rd (st.compute .and (st.regLate rn) (st.op2RegShift o))))

/-- `EOR_imm` (R261). -/
def execEorImm (c : Cond) (s : Bool) (rn rd : Reg) (o : RotImm) (st : State) : Result :=
  st.gate c (st.dpWrite st.fetched s rd (st.compute .eor (st.reg rn) (st.op2Imm o)))

/-- `EOR_imm_shift` (R261). -/
def execEorImmShift (c : Cond) (s : Bool) (rn rd : Reg) (o : ImmShift) (st : State) : Result :=
  st.gate c (st.dpWrite st.fetched s rd (st.compute .eor (st.reg rn) (st.op2Shift o)))

/-- `EOR_reg_shift` (R261). -/
def execEorRegShift (c : Cond) (s : Bool) (rn rd : Reg) (o : RegShift) (st : State) : Result :=
  st.gate c (st.guarded [(decide (rd = 15), .dpRegshiftRd15)]
    (st.dpWrite (st.fetched.internal 1) s rd (st.compute .eor (st.regLate rn) (st.op2RegShift o))))

/-- `SUB_imm` (R262). -/
def execSubImm (c : Cond) (s : Bool) (rn rd : Reg) (o : RotImm) (st : State) : Result :=
  st.gate c (st.dpWrite st.fetched s rd (st.compute .sub (st.reg rn) (st.op2Imm o)))

/-- `SUB_imm_shift` (R262). -/
def execSubImmShift (c : Cond) (s : Bool) (rn rd : Reg) (o : ImmShift) (st : State) : Result :=
  st.gate c (st.dpWrite st.fetched s rd (st.compute .sub (st.reg rn) (st.op2Shift o)))

/-- `SUB_reg_shift` (R262). -/
def execSubRegShift (c : Cond) (s : Bool) (rn rd : Reg) (o : RegShift) (st : State) : Result :=
  st.gate c (st.guarded [(decide (rd = 15), .dpRegshiftRd15)]
    (st.dpWrite (st.fetched.internal 1) s rd (st.compute .sub (st.regLate rn) (st.op2RegShift o))))

/-- `RSB_imm` (R263). -/
def execRsbImm (c : Cond) (s : Bool) (rn rd : Reg) (o : RotImm) (st : State) : Result :=
  st.gate c (st.dpWrite st.fetched s rd (st.compute .rsb (st.reg rn) (st.op2Imm o)))

/-- `RSB_imm_shift` (R263). -/
def execRsbImmShift (c : Cond) (s : Bool) (rn rd : Reg) (o : ImmShift) (st : State) : Result :=
  st.gate c (st.dpWrite st.fetched s rd (st.compute .rsb (st.reg rn) (st.op2Shift o)))

/-- `RSB_reg_shift` (R263). -/
def execRsbRegShift (c : Cond) (s : Bool) (rn rd : Reg) (o : RegShift) (st : State) : Result :=
  st.gate c (st.guarded [(decide (rd = 15), .dpRegshiftRd15)]
    (st.dpWrite (st.fetched.internal 1) s rd (st.compute .rsb (st.regLate rn) (st.op2RegShift o))))

/-- `ADD_imm` (R264). -/
def execAddImm (c : Cond) (s : Bool) (rn rd : Reg) (o : RotImm) (st : State) : Result :=
  st.gate c (st.dpWrite st.fetched s rd (st.compute .add (st.reg rn) (st.op2Imm o)))

/-- `ADD_imm_shift` (R264). -/
def execAddImmShift (c : Cond) (s : Bool) (rn rd : Reg) (o : ImmShift) (st : State) : Result :=
  st.gate c (st.dpWrite st.fetched s rd (st.compute .add (st.reg rn) (st.op2Shift o)))

/-- `ADD_reg_shift` (R264). -/
def execAddRegShift (c : Cond) (s : Bool) (rn rd : Reg) (o : RegShift) (st : State) : Result :=
  st.gate c (st.guarded [(decide (rd = 15), .dpRegshiftRd15)]
    (st.dpWrite (st.fetched.internal 1) s rd (st.compute .add (st.regLate rn) (st.op2RegShift o))))

/-- `ADC_imm` (R265). -/
def execAdcImm (c : Cond) (s : Bool) (rn rd : Reg) (o : RotImm) (st : State) : Result :=
  st.gate c (st.dpWrite st.fetched s rd (st.compute .adc (st.reg rn) (st.op2Imm o)))

/-- `ADC_imm_shift` (R265). -/
def execAdcImmShift (c : Cond) (s : Bool) (rn rd : Reg) (o : ImmShift) (st : State) : Result :=
  st.gate c (st.dpWrite st.fetched s rd (st.compute .adc (st.reg rn) (st.op2Shift o)))

/-- `ADC_reg_shift` (R265). -/
def execAdcRegShift (c : Cond) (s : Bool) (rn rd : Reg) (o : RegShift) (st : State) : Result :=
  st.gate c (st.guarded [(decide (rd = 15), .dpRegshiftRd15)]
    (st.dpWrite (st.fetched.internal 1) s rd (st.compute .adc (st.regLate rn) (st.op2RegShift o))))

/-- `SBC_imm` (R266). -/
def execSbcImm (c : Cond) (s : Bool) (rn rd : Reg) (o : RotImm) (st : State) : Result :=
  st.gate c (st.dpWrite st.fetched s rd (st.compute .sbc (st.reg rn) (st.op2Imm o)))

/-- `SBC_imm_shift` (R266). -/
def execSbcImmShift (c : Cond) (s : Bool) (rn rd : Reg) (o : ImmShift) (st : State) : Result :=
  st.gate c (st.dpWrite st.fetched s rd (st.compute .sbc (st.reg rn) (st.op2Shift o)))

/-- `SBC_reg_shift` (R266). -/
def execSbcRegShift (c : Cond) (s : Bool) (rn rd : Reg) (o : RegShift) (st : State) : Result :=
  st.gate c (st.guarded [(decide (rd = 15), .dpRegshiftRd15)]
    (st.dpWrite (st.fetched.internal 1) s rd (st.compute .sbc (st.regLate rn) (st.op2RegShift o))))

/-- `RSC_imm` (R267). -/
def execRscImm (c : Cond) (s : Bool) (rn rd : Reg) (o : RotImm) (st : State) : Result :=
  st.gate c (st.dpWrite st.fetched s rd (st.compute .rsc (st.reg rn) (st.op2Imm o)))

/-- `RSC_imm_shift` (R267). -/
def execRscImmShift (c : Cond) (s : Bool) (rn rd : Reg) (o : ImmShift) (st : State) : Result :=
  st.gate c (st.dpWrite st.fetched s rd (st.compute .rsc (st.reg rn) (st.op2Shift o)))

/-- `RSC_reg_shift` (R267). -/
def execRscRegShift (c : Cond) (s : Bool) (rn rd : Reg) (o : RegShift) (st : State) : Result :=
  st.gate c (st.guarded [(decide (rd = 15), .dpRegshiftRd15)]
    (st.dpWrite (st.fetched.internal 1) s rd (st.compute .rsc (st.regLate rn) (st.op2RegShift o))))

/-- `TST_imm` (R268). -/
def execTstImm (c : Cond) (rn : Reg) (o : RotImm) (s : State) : Result :=
  s.gate c (.next (s.fetched.aluFlags (s.compute .tst (s.reg rn) (s.op2Imm o))))

/-- `TST_imm_shift` (R268). -/
def execTstImmShift (c : Cond) (rn : Reg) (o : ImmShift) (s : State) : Result :=
  s.gate c (.next (s.fetched.aluFlags (s.compute .tst (s.reg rn) (s.op2Shift o))))

/-- `TST_reg_shift` (R268). -/
def execTstRegShift (c : Cond) (rn : Reg) (o : RegShift) (s : State) : Result :=
  s.gate c (.next ((s.fetched.internal 1).aluFlags (s.compute .tst (s.regLate rn) (s.op2RegShift o))))

/-- `TEQ_imm` (R269). -/
def execTeqImm (c : Cond) (rn : Reg) (o : RotImm) (s : State) : Result :=
  s.gate c (.next (s.fetched.aluFlags (s.compute .teq (s.reg rn) (s.op2Imm o))))

/-- `TEQ_imm_shift` (R269). -/
def execTeqImmShift (c : Cond) (rn : Reg) (o : ImmShift) (s : State) : Result :=
  s.gate c (.next (s.fetched.aluFlags (s.compute .teq (s.reg rn) (s.op2Shift o))))

/-- `TEQ_reg_shift` (R269). -/
def execTeqRegShift (c : Cond) (rn : Reg) (o : RegShift) (s : State) : Result :=
  s.gate c (.next ((s.fetched.internal 1).aluFlags (s.compute .teq (s.regLate rn) (s.op2RegShift o))))

/-- `CMP_imm` (R270). -/
def execCmpImm (c : Cond) (rn : Reg) (o : RotImm) (s : State) : Result :=
  s.gate c (.next (s.fetched.aluFlags (s.compute .cmp (s.reg rn) (s.op2Imm o))))

/-- `CMP_imm_shift` (R270). -/
def execCmpImmShift (c : Cond) (rn : Reg) (o : ImmShift) (s : State) : Result :=
  s.gate c (.next (s.fetched.aluFlags (s.compute .cmp (s.reg rn) (s.op2Shift o))))

/-- `CMP_reg_shift` (R270). -/
def execCmpRegShift (c : Cond) (rn : Reg) (o : RegShift) (s : State) : Result :=
  s.gate c (.next ((s.fetched.internal 1).aluFlags (s.compute .cmp (s.regLate rn) (s.op2RegShift o))))

/-- `CMN_imm` (R271). -/
def execCmnImm (c : Cond) (rn : Reg) (o : RotImm) (s : State) : Result :=
  s.gate c (.next (s.fetched.aluFlags (s.compute .cmn (s.reg rn) (s.op2Imm o))))

/-- `CMN_imm_shift` (R271). -/
def execCmnImmShift (c : Cond) (rn : Reg) (o : ImmShift) (s : State) : Result :=
  s.gate c (.next (s.fetched.aluFlags (s.compute .cmn (s.reg rn) (s.op2Shift o))))

/-- `CMN_reg_shift` (R271). -/
def execCmnRegShift (c : Cond) (rn : Reg) (o : RegShift) (s : State) : Result :=
  s.gate c (.next ((s.fetched.internal 1).aluFlags (s.compute .cmn (s.regLate rn) (s.op2RegShift o))))

/-- `ORR_imm` (R272). -/
def execOrrImm (c : Cond) (s : Bool) (rn rd : Reg) (o : RotImm) (st : State) : Result :=
  st.gate c (st.dpWrite st.fetched s rd (st.compute .orr (st.reg rn) (st.op2Imm o)))

/-- `ORR_imm_shift` (R272). -/
def execOrrImmShift (c : Cond) (s : Bool) (rn rd : Reg) (o : ImmShift) (st : State) : Result :=
  st.gate c (st.dpWrite st.fetched s rd (st.compute .orr (st.reg rn) (st.op2Shift o)))

/-- `ORR_reg_shift` (R272). -/
def execOrrRegShift (c : Cond) (s : Bool) (rn rd : Reg) (o : RegShift) (st : State) : Result :=
  st.gate c (st.guarded [(decide (rd = 15), .dpRegshiftRd15)]
    (st.dpWrite (st.fetched.internal 1) s rd (st.compute .orr (st.regLate rn) (st.op2RegShift o))))

/-- `MOV_imm` (R273). -/
def execMovImm (c : Cond) (s : Bool) (rd : Reg) (o : RotImm) (st : State) : Result :=
  st.gate c (st.dpWrite st.fetched s rd (st.compute .mov 0 (st.op2Imm o)))

/-- `MOV_imm_shift` (R273). -/
def execMovImmShift (c : Cond) (s : Bool) (rd : Reg) (o : ImmShift) (st : State) : Result :=
  st.gate c (st.dpWrite st.fetched s rd (st.compute .mov 0 (st.op2Shift o)))

/-- `MOV_reg_shift` (R273). -/
def execMovRegShift (c : Cond) (s : Bool) (rd : Reg) (o : RegShift) (st : State) : Result :=
  st.gate c (st.guarded [(decide (rd = 15), .dpRegshiftRd15)]
    (st.dpWrite (st.fetched.internal 1) s rd (st.compute .mov 0 (st.op2RegShift o))))

/-- `BIC_imm` (R274). -/
def execBicImm (c : Cond) (s : Bool) (rn rd : Reg) (o : RotImm) (st : State) : Result :=
  st.gate c (st.dpWrite st.fetched s rd (st.compute .bic (st.reg rn) (st.op2Imm o)))

/-- `BIC_imm_shift` (R274). -/
def execBicImmShift (c : Cond) (s : Bool) (rn rd : Reg) (o : ImmShift) (st : State) : Result :=
  st.gate c (st.dpWrite st.fetched s rd (st.compute .bic (st.reg rn) (st.op2Shift o)))

/-- `BIC_reg_shift` (R274). -/
def execBicRegShift (c : Cond) (s : Bool) (rn rd : Reg) (o : RegShift) (st : State) : Result :=
  st.gate c (st.guarded [(decide (rd = 15), .dpRegshiftRd15)]
    (st.dpWrite (st.fetched.internal 1) s rd (st.compute .bic (st.regLate rn) (st.op2RegShift o))))

/-- `MVN_imm` (R275). -/
def execMvnImm (c : Cond) (s : Bool) (rd : Reg) (o : RotImm) (st : State) : Result :=
  st.gate c (st.dpWrite st.fetched s rd (st.compute .mvn 0 (st.op2Imm o)))

/-- `MVN_imm_shift` (R275). -/
def execMvnImmShift (c : Cond) (s : Bool) (rd : Reg) (o : ImmShift) (st : State) : Result :=
  st.gate c (st.dpWrite st.fetched s rd (st.compute .mvn 0 (st.op2Shift o)))

/-- `MVN_reg_shift` (R275). -/
def execMvnRegShift (c : Cond) (s : Bool) (rd : Reg) (o : RegShift) (st : State) : Result :=
  st.gate c (st.guarded [(decide (rd = 15), .dpRegshiftRd15)]
    (st.dpWrite (st.fetched.internal 1) s rd (st.compute .mvn 0 (st.op2RegShift o))))

end Sys2Proof.Machine
end

