-- ==== Sys2Proof/Machine/ArmLoadStore.lean ====
section
/-! DEFINITION. The single, halfword and signed transfers and the swaps (43_arm_load_store.md R320 to R339, R360, R361). -/

namespace Sys2Proof.Machine

/-- The UNPREDICTABLE cases of a write-back (R321). -/
def backCases (load : Bool) (wb : Bool) (rn rd : Reg) : List (Bool × Unpred) :=
  [(wb && decide (rn = 15), .ldstWbRn15), (load && wb && decide (rn = rd), .ldrWbRnEqRd)]

/-- A single load or store with its addressing (R320): the access at `addr`, the write-back of `offaddr`. -/
def State.loadIdx (s : State) (k : LoadKind) (m : Idx) (rn rd : Reg) (offset : Word) : Result :=
  s.load k (effAddr m (s.reg rn) offset) rd (backs m) rn (offAddr m.u (s.reg rn) offset)

/-- As `State.loadIdx`; register 15 is stored as `PC_REGSHIFT_STORE_READ` says (R325, 10_state.md R37). -/
def State.storeIdx (s : State) (k : StoreKind) (m : Idx) (rn rd : Reg) (offset : Word) : Result :=
  s.store k (effAddr m (s.reg rn) offset) (s.regLate rd) (backs m) rn (offAddr m.u (s.reg rn) offset)

/-- The P, U and W bits a T form acts with (R327): post-indexed, with write-back. -/
def postIndexed (u : Bool) : Idx := ⟨false, u, true⟩

/-- The UNPREDICTABLE cases of a halfword transfer, but for its registers (R335). -/
def halfCases (m : Idx) : List (Bool × Unpred) := [(!m.p && m.w, .halfPostW)]

/-- `STRH_reg` (R338). -/
def execStrhReg (c : Cond) (m : Idx) (rn rd rm : Reg) (s : State) : Result :=
  s.gate c (s.guarded (halfCases m ++ [(decide (rm = 15), .halfRm15)] ++ backCases false (backs m) rn rd)
    (s.storeIdx .half m rn rd (s.reg rm)))

/-- `STRH_imm` (R338). -/
def execStrhImm (c : Cond) (m : Idx) (rn rd : Reg) (off : BitVec 8) (s : State) : Result :=
  s.gate c (s.guarded (halfCases m ++ backCases false (backs m) rn rd)
    (s.storeIdx .half m rn rd (offset8 off)))

/-- `LDRH_reg` (R336). -/
def execLdrhReg (c : Cond) (m : Idx) (rn rd rm : Reg) (s : State) : Result :=
  s.gate c (s.guarded (halfCases m ++ [(decide (rm = 15), .halfRm15)] ++ backCases true (backs m) rn rd ++ [(decide (rd = 15), .ldrhRd15)])
    (s.loadIdx .half m rn rd (s.reg rm)))

/-- `LDRH_imm` (R336). -/
def execLdrhImm (c : Cond) (m : Idx) (rn rd : Reg) (off : BitVec 8) (s : State) : Result :=
  s.gate c (s.guarded (halfCases m ++ backCases true (backs m) rn rd ++ [(decide (rd = 15), .ldrhRd15)])
    (s.loadIdx .half m rn rd (offset8 off)))

/-- `LDRSB_reg` (R337). -/
def execLdrsbReg (c : Cond) (m : Idx) (rn rd rm : Reg) (s : State) : Result :=
  s.gate c (s.guarded (halfCases m ++ [(decide (rm = 15), .halfRm15)] ++ backCases true (backs m) rn rd ++ [(decide (rd = 15), .ldrhRd15)])
    (s.loadIdx .sbyte m rn rd (s.reg rm)))

/-- `LDRSB_imm` (R337). -/
def execLdrsbImm (c : Cond) (m : Idx) (rn rd : Reg) (off : BitVec 8) (s : State) : Result :=
  s.gate c (s.guarded (halfCases m ++ backCases true (backs m) rn rd ++ [(decide (rd = 15), .ldrhRd15)])
    (s.loadIdx .sbyte m rn rd (offset8 off)))

/-- `LDRSH_reg` (R339). -/
def execLdrshReg (c : Cond) (m : Idx) (rn rd rm : Reg) (s : State) : Result :=
  s.gate c (s.guarded (halfCases m ++ [(decide (rm = 15), .halfRm15)] ++ backCases true (backs m) rn rd ++ [(decide (rd = 15), .ldrhRd15)])
    (s.loadIdx .shalf m rn rd (s.reg rm)))

/-- `LDRSH_imm` (R339). -/
def execLdrshImm (c : Cond) (m : Idx) (rn rd : Reg) (off : BitVec 8) (s : State) : Result :=
  s.gate c (s.guarded (halfCases m ++ backCases true (backs m) rn rd ++ [(decide (rd = 15), .ldrhRd15)])
    (s.loadIdx .shalf m rn rd (offset8 off)))

/-- `LDRT_imm` (R327). -/
def execLdrtImm (c : Cond) (u : Bool) (rn rd : Reg) (off : BitVec 12) (s : State) : Result :=
  s.gate c (s.guarded (backCases true true rn rd)
    (s.loadIdx .word (postIndexed u) rn rd (offset12 off)))

/-- `LDRT_reg` (R327). -/
def execLdrtReg (c : Cond) (u : Bool) (rn rd : Reg) (o : ImmShift) (s : State) : Result :=
  s.gate c (s.guarded (backCases true true rn rd ++ [(decide (o.rm = 15), .ldstRm15)])
    (s.loadIdx .word (postIndexed u) rn rd (s.scaled o)))

/-- `LDRBT_imm` (R328). -/
def execLdrbtImm (c : Cond) (u : Bool) (rn rd : Reg) (off : BitVec 12) (s : State) : Result :=
  s.gate c (s.guarded (backCases true true rn rd ++ [(decide (rd = 15), .ldrbRd15)])
    (s.loadIdx .byte (postIndexed u) rn rd (offset12 off)))

/-- `LDRBT_reg` (R328). -/
def execLdrbtReg (c : Cond) (u : Bool) (rn rd : Reg) (o : ImmShift) (s : State) : Result :=
  s.gate c (s.guarded (backCases true true rn rd ++ [(decide (o.rm = 15), .ldstRm15)] ++ [(decide (rd = 15), .ldrbRd15)])
    (s.loadIdx .byte (postIndexed u) rn rd (s.scaled o)))

/-- `STRT_imm` (R329). -/
def execStrtImm (c : Cond) (u : Bool) (rn rd : Reg) (off : BitVec 12) (s : State) : Result :=
  s.gate c (s.guarded (backCases false true rn rd)
    (s.storeIdx .word (postIndexed u) rn rd (offset12 off)))

/-- `STRT_reg` (R329). -/
def execStrtReg (c : Cond) (u : Bool) (rn rd : Reg) (o : ImmShift) (s : State) : Result :=
  s.gate c (s.guarded (backCases false true rn rd ++ [(decide (o.rm = 15), .ldstRm15)])
    (s.storeIdx .word (postIndexed u) rn rd (s.scaled o)))

/-- `STRBT_imm` (R330). -/
def execStrbtImm (c : Cond) (u : Bool) (rn rd : Reg) (off : BitVec 12) (s : State) : Result :=
  s.gate c (s.guarded (backCases false true rn rd)
    (s.storeIdx .byte (postIndexed u) rn rd (offset12 off)))

/-- `STRBT_reg` (R330). -/
def execStrbtReg (c : Cond) (u : Bool) (rn rd : Reg) (o : ImmShift) (s : State) : Result :=
  s.gate c (s.guarded (backCases false true rn rd ++ [(decide (o.rm = 15), .ldstRm15)])
    (s.storeIdx .byte (postIndexed u) rn rd (s.scaled o)))

/-- `LDR_imm` (R322). -/
def execLdrImm (c : Cond) (m : Idx) (rn rd : Reg) (off : BitVec 12) (s : State) : Result :=
  s.gate c (s.guarded (backCases true (backs m) rn rd)
    (s.loadIdx .word m rn rd (offset12 off)))

/-- `LDR_reg` (R322). -/
def execLdrReg (c : Cond) (m : Idx) (rn rd : Reg) (o : ImmShift) (s : State) : Result :=
  s.gate c (s.guarded (backCases true (backs m) rn rd ++ [(decide (o.rm = 15), .ldstRm15)])
    (s.loadIdx .word m rn rd (s.scaled o)))

/-- `LDRB_imm` (R323). -/
def execLdrbImm (c : Cond) (m : Idx) (rn rd : Reg) (off : BitVec 12) (s : State) : Result :=
  s.gate c (s.guarded (backCases true (backs m) rn rd ++ [(decide (rd = 15), .ldrbRd15)])
    (s.loadIdx .byte m rn rd (offset12 off)))

/-- `LDRB_reg` (R323). -/
def execLdrbReg (c : Cond) (m : Idx) (rn rd : Reg) (o : ImmShift) (s : State) : Result :=
  s.gate c (s.guarded (backCases true (backs m) rn rd ++ [(decide (o.rm = 15), .ldstRm15)] ++ [(decide (rd = 15), .ldrbRd15)])
    (s.loadIdx .byte m rn rd (s.scaled o)))

/-- `STR_imm` (R325). -/
def execStrImm (c : Cond) (m : Idx) (rn rd : Reg) (off : BitVec 12) (s : State) : Result :=
  s.gate c (s.guarded (backCases false (backs m) rn rd)
    (s.storeIdx .word m rn rd (offset12 off)))

/-- `STR_reg` (R325). -/
def execStrReg (c : Cond) (m : Idx) (rn rd : Reg) (o : ImmShift) (s : State) : Result :=
  s.gate c (s.guarded (backCases false (backs m) rn rd ++ [(decide (o.rm = 15), .ldstRm15)])
    (s.storeIdx .word m rn rd (s.scaled o)))

/-- `STRB_imm` (R326). -/
def execStrbImm (c : Cond) (m : Idx) (rn rd : Reg) (off : BitVec 12) (s : State) : Result :=
  s.gate c (s.guarded (backCases false (backs m) rn rd)
    (s.storeIdx .byte m rn rd (offset12 off)))

/-- `STRB_reg` (R326). -/
def execStrbReg (c : Cond) (m : Idx) (rn rd : Reg) (o : ImmShift) (s : State) : Result :=
  s.gate c (s.guarded (backCases false (backs m) rn rd ++ [(decide (o.rm = 15), .ldstRm15)])
    (s.storeIdx .byte m rn rd (s.scaled o)))

/-- A swap (R360, R361, R596): the read and the write of one address, then Rd. -/
def State.swapAt (s : State) (k : LoadKind) (w : StoreKind) (a : Word) (rd rm : Reg) : Result :=
  s.access (w.addr a) w.width (
    let t := (((s.charge .data .n w.width (w.addr a)).charge .data .n w.width (w.addr a)).fetched.internal 1).storeValue w a (s.reg rm)
    .next (t.setReg rd (s.loadValue k a)))

/-- The UNPREDICTABLE cases of a swap (R360). -/
def swapCases (rn rd rm : Reg) : List (Bool × Unpred) :=
  [(decide ((15 : Reg) ∈ [rd, rm, rn]), .swpR15), (decide (rn = rd ∨ rn = rm), .swpRnOverlap)]

/-- `SWP` (R360). -/
def execSwp (c : Cond) (rn rd rm : Reg) (s : State) : Result :=
  s.gate c (s.guarded (swapCases rn rd rm) (s.swapAt .word .word (s.reg rn) rd rm))

/-- `SWPB` (R361). -/
def execSwpb (c : Cond) (rn rd rm : Reg) (s : State) : Result :=
  s.gate c (s.guarded (swapCases rn rd rm) (s.swapAt .byte .byte (s.reg rn) rd rm))

end Sys2Proof.Machine
end

