-- ==== Sys2Proof/Machine/ArmMultiply.lean ====
section
/-! DEFINITION. The multiplies (42_arm_multiply.md R300 to R309, 70_reset_and_hazards.md R593). -/

namespace Sys2Proof.Machine

/-- The UNPREDICTABLE cases of MUL and MLA (R301). -/
def mulCases (rd rm : Reg) (operands : List Reg) : List (Bool × Unpred) :=
  [(decide ((15 : Reg) ∈ operands), .mulR15), (decide (rd = rm), .mulRdEqRm)]

/-- The UNPREDICTABLE cases of the long forms (R301). -/
def mullCases (rdHi rdLo rs rm : Reg) : List (Bool × Unpred) :=
  [(decide ((15 : Reg) ∈ [rdHi, rdLo, rs, rm]), .mullR15), (decide (rdHi = rdLo ∨ rdHi = rm ∨ rdLo = rm), .mullRegOverlap)]

/-- A 32-bit multiply's result (R302, R303, R309, R593), `n` its internal cycles. -/
def State.mulWrite (st : State) (setFlags : Bool) (rd : Reg) (r : Word) (n : Nat) : Result :=
  let t := (st.fetched.internal n).setReg rd r
  .next (if setFlags then t.mulFlags r else t)

/-- A long multiply's result (R304 to R307, R309, R593): the low half, then the high half, "written last" (R301). -/
def State.mullWrite (st : State) (setFlags : Bool) (rdHi rdLo : Reg) (p : DWord) (n : Nat) : Result :=
  let t := ((st.fetched.internal n).setReg rdLo (p.extractLsb' 0 32)).setReg rdHi (p.extractLsb' 32 32)
  .next (if setFlags then t.longMulFlags p else t)

/-- The exact unsigned product (R300). -/
def productU (a b : Word) : DWord := a.setWidth 64 * b.setWidth 64

/-- The exact signed product (R300). -/
def productS (a b : Word) : DWord := a.signExtend 64 * b.signExtend 64

/-- `R[RdHi] : R[RdLo]` (R300). -/
def State.pair (st : State) (rdHi rdLo : Reg) : DWord := st.reg rdHi ++ st.reg rdLo

/-- `MUL` (R302). -/
def execMul (c : Cond) (s : Bool) (rd rs rm : Reg) (st : State) : Result :=
  st.gate c (st.guarded (mulCases rd rm [rd, rm, rs])
    (st.mulWrite s rd (st.reg rm * st.reg rs) (mulCyclesSigned (st.reg rs))))

/-- `MLA` (R303). -/
def execMla (c : Cond) (s : Bool) (rd rn rs rm : Reg) (st : State) : Result :=
  st.gate c (st.guarded (mulCases rd rm [rd, rm, rs, rn])
    (st.mulWrite s rd (st.reg rm * st.reg rs + st.reg rn) (mulCyclesSigned (st.reg rs) + 1)))

/-- `UMULL` (R304). -/
def execUmull (c : Cond) (s : Bool) (rdHi rdLo rs rm : Reg) (st : State) : Result :=
  st.gate c (st.guarded (mullCases rdHi rdLo rs rm)
    (st.mullWrite s rdHi rdLo (productU (st.reg rm) (st.reg rs)) (mulCyclesUnsigned (st.reg rs) + 1)))

/-- `UMLAL` (R305). -/
def execUmlal (c : Cond) (s : Bool) (rdHi rdLo rs rm : Reg) (st : State) : Result :=
  st.gate c (st.guarded (mullCases rdHi rdLo rs rm)
    (st.mullWrite s rdHi rdLo (productU (st.reg rm) (st.reg rs) + st.pair rdHi rdLo) (mulCyclesUnsigned (st.reg rs) + 2)))

/-- `SMULL` (R306). -/
def execSmull (c : Cond) (s : Bool) (rdHi rdLo rs rm : Reg) (st : State) : Result :=
  st.gate c (st.guarded (mullCases rdHi rdLo rs rm)
    (st.mullWrite s rdHi rdLo (productS (st.reg rm) (st.reg rs)) (mulCyclesSigned (st.reg rs) + 1)))

/-- `SMLAL` (R307). -/
def execSmlal (c : Cond) (s : Bool) (rdHi rdLo rs rm : Reg) (st : State) : Result :=
  st.gate c (st.guarded (mullCases rdHi rdLo rs rm)
    (st.mullWrite s rdHi rdLo (productS (st.reg rm) (st.reg rs) + st.pair rdHi rdLo) (mulCyclesSigned (st.reg rs) + 2)))

end Sys2Proof.Machine
end

