-- ==== Sys2Proof/Machine/ArmStatus.lean ====
section
/-! DEFINITION. The status-register transfers (41_arm_data_processing.md R280 to R284, R592). -/

namespace Sys2Proof.Machine

/-- `bytemask` (R282): f selects bits 31:24 and c bits 7:0; s and x select nothing. -/
def msrMask (mask : BitVec 4) : Word :=
  (if mask.getLsbD 3 then 0xFF000000#32 else 0) ||| (if mask.getLsbD 0 then 0x000000FF#32 else 0)

/-- `(old & ~mask) | (value & mask)` (R283, R284). -/
def maskedWrite (old value mask : Word) : Word := (old &&& ~~~mask) ||| (value &&& mask)

/-- The CPSR that MSR writes (R283): user mode may write the flag byte only. -/
def State.msrCpsr (s : State) (mask : BitVec 4) (value : Word) : Word :=
  maskedWrite s.cpsr value (if s.mode = .usr then msrMask mask &&& 0xFF000000#32 else msrMask mask)

/-- MSR (R283, R284, R592), `cases` the UNPREDICTABLE cases of its operand. -/
def State.msr (s : State) (r : Bool) (mask : BitVec 4) (value : Word) (cases : List (Bool × Unpred)) : Result :=
  if r then
    s.guarded cases (match s.spsrNow with
      | some old => s.orStop (s.fetched.writeSpsr (maskedWrite old value (msrMask mask)))
      | none => s.stop .modeError)
  else
    let new := s.msrCpsr mask value
    s.guarded (cases ++ [(new.getLsbD 5 != s.thumb, .msrTChange)]) (s.orStop (s.fetched.writeCpsr new))

/-- `MRS` (R280, R592). -/
def execMrs (c : Cond) (r : Bool) (rd : Reg) (s : State) : Result :=
  s.gate c (s.guarded [(decide (rd = 15), .mrsRd15)] (
    match (if r then s.spsrNow else some s.cpsr) with
    | some v => .next (s.fetched.setReg rd v)
    | none => s.stop .modeError))

/-- `MSR_reg` (R281, R283, R284). -/
def execMsrReg (c : Cond) (r : Bool) (mask : BitVec 4) (rm : Reg) (s : State) : Result :=
  s.gate c (s.msr r mask (s.reg rm) [(decide (rm = 15), .msrRm15)])

/-- `MSR_imm` (R281, R283, R284). -/
def execMsrImm (c : Cond) (r : Bool) (mask : BitVec 4) (o : RotImm) (s : State) : Result :=
  s.gate c (s.msr r mask (s.op2Imm o).1 [])

end Sys2Proof.Machine
end

