-- ==== Sys2Proof/Machine/ThumbAlu.lean ====
section
/-! DEFINITION. The Thumb data processing of formats 1 to 5, 12 and 13 (45_thumb_alu.md R400 to R435, 70_reset_and_hazards.md R598). -/

namespace Sys2Proof.Machine

/-- A low register written with N, Z, C and V (45_thumb_alu.md R400). -/
def State.thumbWrite (s : State) (rd : LoReg) (o : Alu) : Result := .next ((s.fetched.aluFlags o).setLo rd o.result)

/-- A compare: the flags only. -/
def State.thumbCompare (s : State) (o : Alu) : Result := .next (s.fetched.aluFlags o)

/-- A logical result with C and V unchanged, "C only when a shift produced a carry" (R400). -/
def State.keepCV (s : State) (r : Word) : Alu := logicalOut r s.flagC s.flagV

/-- A shifted result: C the shifter carry, V unchanged (R401). -/
def State.shiftOut (s : State) (x : Word × Bool) : Alu := logicalOut x.1 x.2 s.flagV

/-- A shift by a register (R414, R598): one internal cycle more. -/
def State.thumbShift (s : State) (ty : ShiftType) (rs rd : LoReg) : Result :=
  let o := s.shiftOut (shiftReg ty (s.lo rd) (lowByte (s.lo rs)) s.flagC)
  .next (((s.fetched.internal 1).aluFlags o).setLo rd o.result)

/-- A register written without flags; register 15 a branch in Thumb state, with its refill (R400, R598). -/
def State.hiWrite (s : State) (d : Reg) (v : Word) : Result :=
  .next (if d = 15 then (s.fetched.branch v).refill else s.fetched.setReg d v)

/-- The UNPREDICTABLE case of ADD, CMP and MOV on two low registers (R428). -/
def lowLowCase (d m : Reg) : List (Bool × Unpred) := [(decide (d.val < 8 ∧ m.val < 8), .thumbHiregLowlow)]

/-- `T_LSL_imm` (R401). -/
def execTLslImm (off : BitVec 5) (rs rd : LoReg) (s : State) : Result :=
  s.thumbWrite rd (s.shiftOut (shiftImm .lsl (s.lo rs) off s.flagC))

/-- `T_LSR_imm` (R402). -/
def execTLsrImm (off : BitVec 5) (rs rd : LoReg) (s : State) : Result :=
  s.thumbWrite rd (s.shiftOut (shiftImm .lsr (s.lo rs) off s.flagC))

/-- `T_ASR_imm` (R403). -/
def execTAsrImm (off : BitVec 5) (rs rd : LoReg) (s : State) : Result :=
  s.thumbWrite rd (s.shiftOut (shiftImm .asr (s.lo rs) off s.flagC))

/-- `T_ADD_reg` (R404). -/
def execTAddReg (rn rs rd : LoReg) (s : State) : Result :=
  s.thumbWrite rd (addWithCarry (s.lo rs) (s.lo rn) false)

/-- `T_SUB_reg` (R405). -/
def execTSubReg (rn rs rd : LoReg) (s : State) : Result :=
  s.thumbWrite rd (addWithCarry (s.lo rs) (~~~(s.lo rn)) true)

/-- `T_ADD_imm3` (R406). -/
def execTAddImm3 (off : BitVec 3) (rs rd : LoReg) (s : State) : Result :=
  s.thumbWrite rd (addWithCarry (s.lo rs) (off.setWidth 32) false)

/-- `T_SUB_imm3` (R407). -/
def execTSubImm3 (off : BitVec 3) (rs rd : LoReg) (s : State) : Result :=
  s.thumbWrite rd (addWithCarry (s.lo rs) (~~~(off.setWidth 32)) true)

/-- `T_MOV_imm` (R408). -/
def execTMovImm (rd : LoReg) (off : BitVec 8) (s : State) : Result :=
  s.thumbWrite rd (s.keepCV (off.setWidth 32))

/-- `T_CMP_imm` (R409). -/
def execTCmpImm (rd : LoReg) (off : BitVec 8) (s : State) : Result :=
  s.thumbCompare (addWithCarry (s.lo rd) (~~~(off.setWidth 32)) true)

/-- `T_ADD_imm8` (R410). -/
def execTAddImm8 (rd : LoReg) (off : BitVec 8) (s : State) : Result :=
  s.thumbWrite rd (addWithCarry (s.lo rd) (off.setWidth 32) false)

/-- `T_SUB_imm8` (R411). -/
def execTSubImm8 (rd : LoReg) (off : BitVec 8) (s : State) : Result :=
  s.thumbWrite rd (addWithCarry (s.lo rd) (~~~(off.setWidth 32)) true)

/-- `T_AND` (R412). -/
def execTAnd (rs rd : LoReg) (s : State) : Result :=
  s.thumbWrite rd (s.keepCV (s.lo rd &&& s.lo rs))

/-- `T_EOR` (R413). -/
def execTEor (rs rd : LoReg) (s : State) : Result :=
  s.thumbWrite rd (s.keepCV (s.lo rd ^^^ s.lo rs))

/-- `T_LSL` (R414). -/
def execTLsl (rs rd : LoReg) (s : State) : Result :=
  s.thumbShift .lsl rs rd

/-- `T_LSR` (R415). -/
def execTLsr (rs rd : LoReg) (s : State) : Result :=
  s.thumbShift .lsr rs rd

/-- `T_ASR` (R416). -/
def execTAsr (rs rd : LoReg) (s : State) : Result :=
  s.thumbShift .asr rs rd

/-- `T_ADC` (R417). -/
def execTAdc (rs rd : LoReg) (s : State) : Result :=
  s.thumbWrite rd (addWithCarry (s.lo rd) (s.lo rs) s.flagC)

/-- `T_SBC` (R418). -/
def execTSbc (rs rd : LoReg) (s : State) : Result :=
  s.thumbWrite rd (addWithCarry (s.lo rd) (~~~(s.lo rs)) s.flagC)

/-- `T_ROR` (R419). -/
def execTRor (rs rd : LoReg) (s : State) : Result :=
  s.thumbShift .ror rs rd

/-- `T_TST` (R420). -/
def execTTst (rs rd : LoReg) (s : State) : Result :=
  s.thumbCompare (s.keepCV (s.lo rd &&& s.lo rs))

/-- `T_NEG` (R421). -/
def execTNeg (rs rd : LoReg) (s : State) : Result :=
  s.thumbWrite rd (addWithCarry 0 (~~~(s.lo rs)) true)

/-- `T_CMP` (R422). -/
def execTCmp (rs rd : LoReg) (s : State) : Result :=
  s.thumbCompare (addWithCarry (s.lo rd) (~~~(s.lo rs)) true)

/-- `T_CMN` (R423). -/
def execTCmn (rs rd : LoReg) (s : State) : Result :=
  s.thumbCompare (addWithCarry (s.lo rd) (s.lo rs) false)

/-- `T_ORR` (R424). -/
def execTOrr (rs rd : LoReg) (s : State) : Result :=
  s.thumbWrite rd (s.keepCV (s.lo rd ||| s.lo rs))

/-- `T_MUL` (R425). -/
def execTMul (rs rd : LoReg) (s : State) : Result :=
  let r := s.lo rd * s.lo rs
  .next (((s.fetched.internal (mulCyclesSigned (s.lo rd))).setLo rd r).mulFlags r)

/-- `T_BIC` (R426). -/
def execTBic (rs rd : LoReg) (s : State) : Result :=
  s.thumbWrite rd (s.keepCV (s.lo rd &&& ~~~(s.lo rs)))

/-- `T_MVN` (R427). -/
def execTMvn (rs rd : LoReg) (s : State) : Result :=
  s.thumbWrite rd (s.keepCV (~~~(s.lo rs)))

/-- `T_ADD_hi` (R429). -/
def execTAddHi (d m : Reg) (s : State) : Result :=
  s.guarded (lowLowCase d m) (s.hiWrite d (s.reg d + s.reg m))

/-- `T_CMP_hi` (R430). -/
def execTCmpHi (d m : Reg) (s : State) : Result :=
  s.guarded (lowLowCase d m) (s.thumbCompare (addWithCarry (s.reg d) (~~~(s.reg m)) true))

/-- `T_MOV_hi` (R431). -/
def execTMovHi (d m : Reg) (s : State) : Result :=
  s.guarded (lowLowCase d m) (s.hiWrite d (s.reg m))

/-- `T_BX` (R432). -/
def execTBx (h1 : Bool) (m : Reg) (s : State) : Result :=
  s.guarded [(h1, .thumbBxH1), (!(s.reg m).getLsbD 0 && (s.reg m).getLsbD 1, .bxArmMisaligned)]
    (.next (s.exchange (s.reg m)))

/-- `T_ADD_pc` (R433). -/
def execTAddPc (rd : LoReg) (off : BitVec 8) (s : State) : Result :=
  .next (s.fetched.setLo rd (s.pcWord + times4 off))

/-- `T_ADD_sp` (R434). -/
def execTAddSp (rd : LoReg) (off : BitVec 8) (s : State) : Result :=
  .next (s.fetched.setLo rd (s.reg 13 + times4 off))

/-- `T_ADD_sp_imm` (R435), `s` the sign. -/
def execTAddSpImm (s : Bool) (off : BitVec 7) (st : State) : Result :=
  .next (st.fetched.setReg 13 (if s then st.reg 13 - times4 off else st.reg 13 + times4 off))

end Sys2Proof.Machine
end

