-- ==== Sys2Proof/Machine/ThumbBranch.lean ====
section
/-! DEFINITION. The Thumb branches, SWI and the undefined spaces (47_thumb_branch.md R500 to R512, 70_reset_and_hazards.md R598). -/

namespace Sys2Proof.Machine

/-- `T_SWI` (R501): the value is ignored. -/
def execTSwi (_comment : BitVec 8) (s : State) : Result :=
  .next (s.trap .softwareInterrupt)

/-- `T_B_cond` (R500). -/
def execTBCond (c : Cond) (off : BitVec 8) (s : State) : Result :=
  .next (if s.passes c then s.jump (s.pc + 4 + branchOffset8 off) else s.fetched)

/-- `T_B` (R502). -/
def execTB (off : BitVec 11) (s : State) : Result :=
  .next (s.jump (s.pc + 4 + branchOffset11 off))

/-- `T_BL_hi` (R510). -/
def execTBlHi (off : BitVec 11) (s : State) : Result :=
  .next (s.fetched.setReg 14 (s.pc + 4 + blOffsetHi off))

/-- `T_BL_lo` (R511). -/
def execTBlLo (off : BitVec 11) (s : State) : Result :=
  let target := s.reg 14 + blOffsetLo off
  .next ((s.fetched.setReg 14 ((s.pc + 2) ||| 1)).setPc (target &&& 0xFFFFFFFE)).refill

/-- `T_UNDEF_1011` (R390). -/
def execTUndef1011 (s : State) : Result :=
  s.undefinedEncoding

/-- `T_UNDEF_DE` (R390). -/
def execTUndefDe (s : State) : Result :=
  s.undefinedEncoding

/-- `T_UNDEF_E8` (R390). -/
def execTUndefE8 (s : State) : Result :=
  s.undefinedEncoding

end Sys2Proof.Machine
end

