-- ==== Sys2Proof/Machine/ThumbLoadStore.lean ====
section
/-! DEFINITION. The Thumb transfers of formats 6 to 11, 14 and 15 (46_thumb_load_store.md R450 to R473, 70_reset_and_hazards.md R598). -/

namespace Sys2Proof.Machine

/-- A Thumb load (46_thumb_load_store.md R450): no write-back. -/
def State.thumbLoad (s : State) (k : LoadKind) (a : Word) (rd : LoReg) : Result := s.load k a rd.toReg false 0 0

/-- A Thumb store (R450): no write-back. -/
def State.thumbStore (s : State) (k : StoreKind) (a : Word) (rd : LoReg) : Result := s.store k a (s.lo rd) false 0 0

/-- `T_LDR_pc` (R452). -/
def execTLdrPc (rd : LoReg) (off : BitVec 8) (s : State) : Result :=
  s.thumbLoad .word (s.pcWord + times4 off) rd

/-- `T_STR_reg` (R453). -/
def execTStrReg (ro rb rd : LoReg) (s : State) : Result :=
  s.thumbStore .word (s.lo rb + s.lo ro) rd

/-- `T_STRB_reg` (R454). -/
def execTStrbReg (ro rb rd : LoReg) (s : State) : Result :=
  s.thumbStore .byte (s.lo rb + s.lo ro) rd

/-- `T_LDR_reg` (R455). -/
def execTLdrReg (ro rb rd : LoReg) (s : State) : Result :=
  s.thumbLoad .word (s.lo rb + s.lo ro) rd

/-- `T_LDRB_reg` (R456). -/
def execTLdrbReg (ro rb rd : LoReg) (s : State) : Result :=
  s.thumbLoad .byte (s.lo rb + s.lo ro) rd

/-- `T_STRH_reg` (R457). -/
def execTStrhReg (ro rb rd : LoReg) (s : State) : Result :=
  s.thumbStore .half (s.lo rb + s.lo ro) rd

/-- `T_LDRH_reg` (R458). -/
def execTLdrhReg (ro rb rd : LoReg) (s : State) : Result :=
  s.thumbLoad .half (s.lo rb + s.lo ro) rd

/-- `T_LDSB_reg` (R459). -/
def execTLdsbReg (ro rb rd : LoReg) (s : State) : Result :=
  s.thumbLoad .sbyte (s.lo rb + s.lo ro) rd

/-- `T_LDSH_reg` (R460). -/
def execTLdshReg (ro rb rd : LoReg) (s : State) : Result :=
  s.thumbLoad .shalf (s.lo rb + s.lo ro) rd

/-- `T_STR_imm` (R461). -/
def execTStrImm (off : BitVec 5) (rb rd : LoReg) (s : State) : Result :=
  s.thumbStore .word (s.lo rb + times4 off) rd

/-- `T_LDR_imm` (R462). -/
def execTLdrImm (off : BitVec 5) (rb rd : LoReg) (s : State) : Result :=
  s.thumbLoad .word (s.lo rb + times4 off) rd

/-- `T_STRB_imm` (R463). -/
def execTStrbImm (off : BitVec 5) (rb rd : LoReg) (s : State) : Result :=
  s.thumbStore .byte (s.lo rb + off.setWidth 32) rd

/-- `T_LDRB_imm` (R464). -/
def execTLdrbImm (off : BitVec 5) (rb rd : LoReg) (s : State) : Result :=
  s.thumbLoad .byte (s.lo rb + off.setWidth 32) rd

/-- `T_STRH_imm` (R465). -/
def execTStrhImm (off : BitVec 5) (rb rd : LoReg) (s : State) : Result :=
  s.thumbStore .half (s.lo rb + times2 off) rd

/-- `T_LDRH_imm` (R466). -/
def execTLdrhImm (off : BitVec 5) (rb rd : LoReg) (s : State) : Result :=
  s.thumbLoad .half (s.lo rb + times2 off) rd

/-- `T_STR_sp` (R467). -/
def execTStrSp (rd : LoReg) (off : BitVec 8) (s : State) : Result :=
  s.thumbStore .word (s.reg 13 + times4 off) rd

/-- `T_LDR_sp` (R468). -/
def execTLdrSp (rd : LoReg) (off : BitVec 8) (s : State) : Result :=
  s.thumbLoad .word (s.reg 13 + times4 off) rd

/-- The UNPREDICTABLE case of an empty PUSH or POP (R451). -/
def pushPopCase (r : Bool) (list : BitVec 8) : List (Bool × Unpred) := [(!r && decide (list = 0), .thumbPushpopEmpty)]

/-- The UNPREDICTABLE case of an empty LDMIA or STMIA (R451). -/
def multipleCase (list : BitVec 8) : List (Bool × Unpred) := [(decide (list = 0), .thumbLdmstmEmpty)]

/-- The registers PUSH stores (R470). -/
def pushList (r : Bool) (list : BitVec 8) : List Reg := lowList list ++ (if r then [14] else [])

/-- The registers POP loads (R471). -/
def popList (r : Bool) (list : BitVec 8) : List Reg := lowList list ++ (if r then [15] else [])

/-- `T_PUSH` (R470). -/
def execTPush (r : Bool) (list : BitVec 8) (s : State) : Result :=
  let rs := pushList r list
  let a := s.reg 13 - blockBytes rs
  s.guarded (pushPopCase r list) (s.storeBlock false true a rs true 13 a)

/-- `T_POP` (R471). -/
def execTPop (r : Bool) (list : BitVec 8) (s : State) : Result :=
  let rs := popList r list
  s.guarded (pushPopCase r list) (s.loadBlock false false (s.reg 13) rs true 13 (s.reg 13 + blockBytes rs))

/-- `T_STMIA` (R472). -/
def execTStmia (rb : LoReg) (list : BitVec 8) (s : State) : Result :=
  let rs := lowList list
  s.guarded (multipleCase list) (s.storeBlock false false (s.lo rb) rs true rb.toReg (s.lo rb + blockBytes rs))

/-- `T_LDMIA` (R473). -/
def execTLdmia (rb : LoReg) (list : BitVec 8) (s : State) : Result :=
  let rs := lowList list
  s.guarded (multipleCase list)
    (s.loadBlock false false (s.lo rb) rs (decide (rb.toReg ∉ rs)) rb.toReg (s.lo rb + blockBytes rs))

end Sys2Proof.Machine
end

