-- ==== Sys2Proof/Machine/Dispatch.lean ====
section
/-! DEFINITION. One arm per instruction, each a direct call of its meaning. -/

namespace Sys2Proof.Machine

/-- What an instruction does (70_reset_and_hazards.md R580), in the state its fetch left: register 15 holds pc_cur. -/
def exec (i : Instr) (s : State) : Host.Outcome State Fault Refusal :=
  match i with
  | .mul c f rd rs rm => Sys2Proof.Machine.execMul c f rd rs rm s
  | .mla c f rd rn rs rm => Sys2Proof.Machine.execMla c f rd rn rs rm s
  | .undefMul c => Sys2Proof.Machine.execUndefMul c s
  | .umull c f rdHi rdLo rs rm => Sys2Proof.Machine.execUmull c f rdHi rdLo rs rm s
  | .umlal c f rdHi rdLo rs rm => Sys2Proof.Machine.execUmlal c f rdHi rdLo rs rm s
  | .smull c f rdHi rdLo rs rm => Sys2Proof.Machine.execSmull c f rdHi rdLo rs rm s
  | .smlal c f rdHi rdLo rs rm => Sys2Proof.Machine.execSmlal c f rdHi rdLo rs rm s
  | .swp c rn rd rm => Sys2Proof.Machine.execSwp c rn rd rm s
  | .swpb c rn rd rm => Sys2Proof.Machine.execSwpb c rn rd rm s
  | .undefSwp c => Sys2Proof.Machine.execUndefSwp c s
  | .strhReg c m rn rd rm => Sys2Proof.Machine.execStrhReg c m rn rd rm s
  | .strhImm c m rn rd off => Sys2Proof.Machine.execStrhImm c m rn rd off s
  | .ldrhReg c m rn rd rm => Sys2Proof.Machine.execLdrhReg c m rn rd rm s
  | .ldrhImm c m rn rd off => Sys2Proof.Machine.execLdrhImm c m rn rd off s
  | .ldrsbReg c m rn rd rm => Sys2Proof.Machine.execLdrsbReg c m rn rd rm s
  | .ldrsbImm c m rn rd off => Sys2Proof.Machine.execLdrsbImm c m rn rd off s
  | .ldrshReg c m rn rd rm => Sys2Proof.Machine.execLdrshReg c m rn rd rm s
  | .ldrshImm c m rn rd off => Sys2Proof.Machine.execLdrshImm c m rn rd off s
  | .undefHalfwordStore c => Sys2Proof.Machine.execUndefHalfwordStore c s
  | .mrs c r rd => Sys2Proof.Machine.execMrs c r rd s
  | .msrReg c r mask rm => Sys2Proof.Machine.execMsrReg c r mask rm s
  | .bx c rm => Sys2Proof.Machine.execBx c rm s
  | .undefMisc c => Sys2Proof.Machine.execUndefMisc c s
  | .msrImm c r mask o => Sys2Proof.Machine.execMsrImm c r mask o s
  | .undefImmCmp c => Sys2Proof.Machine.execUndefImmCmp c s
  | .andImm c f rn rd o => Sys2Proof.Machine.execAndImm c f rn rd o s
  | .andImmShift c f rn rd o => Sys2Proof.Machine.execAndImmShift c f rn rd o s
  | .andRegShift c f rn rd o => Sys2Proof.Machine.execAndRegShift c f rn rd o s
  | .eorImm c f rn rd o => Sys2Proof.Machine.execEorImm c f rn rd o s
  | .eorImmShift c f rn rd o => Sys2Proof.Machine.execEorImmShift c f rn rd o s
  | .eorRegShift c f rn rd o => Sys2Proof.Machine.execEorRegShift c f rn rd o s
  | .subImm c f rn rd o => Sys2Proof.Machine.execSubImm c f rn rd o s
  | .subImmShift c f rn rd o => Sys2Proof.Machine.execSubImmShift c f rn rd o s
  | .subRegShift c f rn rd o => Sys2Proof.Machine.execSubRegShift c f rn rd o s
  | .rsbImm c f rn rd o => Sys2Proof.Machine.execRsbImm c f rn rd o s
  | .rsbImmShift c f rn rd o => Sys2Proof.Machine.execRsbImmShift c f rn rd o s
  | .rsbRegShift c f rn rd o => Sys2Proof.Machine.execRsbRegShift c f rn rd o s
  | .addImm c f rn rd o => Sys2Proof.Machine.execAddImm c f rn rd o s
  | .addImmShift c f rn rd o => Sys2Proof.Machine.execAddImmShift c f rn rd o s
  | .addRegShift c f rn rd o => Sys2Proof.Machine.execAddRegShift c f rn rd o s
  | .adcImm c f rn rd o => Sys2Proof.Machine.execAdcImm c f rn rd o s
  | .adcImmShift c f rn rd o => Sys2Proof.Machine.execAdcImmShift c f rn rd o s
  | .adcRegShift c f rn rd o => Sys2Proof.Machine.execAdcRegShift c f rn rd o s
  | .sbcImm c f rn rd o => Sys2Proof.Machine.execSbcImm c f rn rd o s
  | .sbcImmShift c f rn rd o => Sys2Proof.Machine.execSbcImmShift c f rn rd o s
  | .sbcRegShift c f rn rd o => Sys2Proof.Machine.execSbcRegShift c f rn rd o s
  | .rscImm c f rn rd o => Sys2Proof.Machine.execRscImm c f rn rd o s
  | .rscImmShift c f rn rd o => Sys2Proof.Machine.execRscImmShift c f rn rd o s
  | .rscRegShift c f rn rd o => Sys2Proof.Machine.execRscRegShift c f rn rd o s
  | .tstImm c rn o => Sys2Proof.Machine.execTstImm c rn o s
  | .tstImmShift c rn o => Sys2Proof.Machine.execTstImmShift c rn o s
  | .tstRegShift c rn o => Sys2Proof.Machine.execTstRegShift c rn o s
  | .teqImm c rn o => Sys2Proof.Machine.execTeqImm c rn o s
  | .teqImmShift c rn o => Sys2Proof.Machine.execTeqImmShift c rn o s
  | .teqRegShift c rn o => Sys2Proof.Machine.execTeqRegShift c rn o s
  | .cmpImm c rn o => Sys2Proof.Machine.execCmpImm c rn o s
  | .cmpImmShift c rn o => Sys2Proof.Machine.execCmpImmShift c rn o s
  | .cmpRegShift c rn o => Sys2Proof.Machine.execCmpRegShift c rn o s
  | .cmnImm c rn o => Sys2Proof.Machine.execCmnImm c rn o s
  | .cmnImmShift c rn o => Sys2Proof.Machine.execCmnImmShift c rn o s
  | .cmnRegShift c rn o => Sys2Proof.Machine.execCmnRegShift c rn o s
  | .orrImm c f rn rd o => Sys2Proof.Machine.execOrrImm c f rn rd o s
  | .orrImmShift c f rn rd o => Sys2Proof.Machine.execOrrImmShift c f rn rd o s
  | .orrRegShift c f rn rd o => Sys2Proof.Machine.execOrrRegShift c f rn rd o s
  | .movImm c f rd o => Sys2Proof.Machine.execMovImm c f rd o s
  | .movImmShift c f rd o => Sys2Proof.Machine.execMovImmShift c f rd o s
  | .movRegShift c f rd o => Sys2Proof.Machine.execMovRegShift c f rd o s
  | .bicImm c f rn rd o => Sys2Proof.Machine.execBicImm c f rn rd o s
  | .bicImmShift c f rn rd o => Sys2Proof.Machine.execBicImmShift c f rn rd o s
  | .bicRegShift c f rn rd o => Sys2Proof.Machine.execBicRegShift c f rn rd o s
  | .mvnImm c f rd o => Sys2Proof.Machine.execMvnImm c f rd o s
  | .mvnImmShift c f rd o => Sys2Proof.Machine.execMvnImmShift c f rd o s
  | .mvnRegShift c f rd o => Sys2Proof.Machine.execMvnRegShift c f rd o s
  | .ldrtImm c u rn rd off => Sys2Proof.Machine.execLdrtImm c u rn rd off s
  | .ldrtReg c u rn rd o => Sys2Proof.Machine.execLdrtReg c u rn rd o s
  | .ldrbtImm c u rn rd off => Sys2Proof.Machine.execLdrbtImm c u rn rd off s
  | .ldrbtReg c u rn rd o => Sys2Proof.Machine.execLdrbtReg c u rn rd o s
  | .strtImm c u rn rd off => Sys2Proof.Machine.execStrtImm c u rn rd off s
  | .strtReg c u rn rd o => Sys2Proof.Machine.execStrtReg c u rn rd o s
  | .strbtImm c u rn rd off => Sys2Proof.Machine.execStrbtImm c u rn rd off s
  | .strbtReg c u rn rd o => Sys2Proof.Machine.execStrbtReg c u rn rd o s
  | .ldrImm c m rn rd off => Sys2Proof.Machine.execLdrImm c m rn rd off s
  | .ldrReg c m rn rd o => Sys2Proof.Machine.execLdrReg c m rn rd o s
  | .ldrbImm c m rn rd off => Sys2Proof.Machine.execLdrbImm c m rn rd off s
  | .ldrbReg c m rn rd o => Sys2Proof.Machine.execLdrbReg c m rn rd o s
  | .strImm c m rn rd off => Sys2Proof.Machine.execStrImm c m rn rd off s
  | .strReg c m rn rd o => Sys2Proof.Machine.execStrReg c m rn rd o s
  | .strbImm c m rn rd off => Sys2Proof.Machine.execStrbImm c m rn rd off s
  | .strbReg c m rn rd o => Sys2Proof.Machine.execStrbReg c m rn rd o s
  | .undefMedia c => Sys2Proof.Machine.execUndefMedia c s
  | .ldmRet c m rn list => Sys2Proof.Machine.execLdmRet c m rn list s
  | .ldmUser c m rn list => Sys2Proof.Machine.execLdmUser c m rn list s
  | .stmUser c m rn list => Sys2Proof.Machine.execStmUser c m rn list s
  | .ldm c m rn list => Sys2Proof.Machine.execLdm c m rn list s
  | .stm c m rn list => Sys2Proof.Machine.execStm c m rn list s
  | .b c off => Sys2Proof.Machine.execB c off s
  | .bl c off => Sys2Proof.Machine.execBl c off s
  | .coprocXfer c => Sys2Proof.Machine.execCoprocXfer c s
  | .coprocOp c => Sys2Proof.Machine.execCoprocOp c s
  | .swi c comment => Sys2Proof.Machine.execSwi c comment s
  | .tLslImm off rs rd => Sys2Proof.Machine.execTLslImm off rs rd s
  | .tLsrImm off rs rd => Sys2Proof.Machine.execTLsrImm off rs rd s
  | .tAsrImm off rs rd => Sys2Proof.Machine.execTAsrImm off rs rd s
  | .tAddReg rn rs rd => Sys2Proof.Machine.execTAddReg rn rs rd s
  | .tSubReg rn rs rd => Sys2Proof.Machine.execTSubReg rn rs rd s
  | .tAddImm3 off rs rd => Sys2Proof.Machine.execTAddImm3 off rs rd s
  | .tSubImm3 off rs rd => Sys2Proof.Machine.execTSubImm3 off rs rd s
  | .tMovImm rd off => Sys2Proof.Machine.execTMovImm rd off s
  | .tCmpImm rd off => Sys2Proof.Machine.execTCmpImm rd off s
  | .tAddImm8 rd off => Sys2Proof.Machine.execTAddImm8 rd off s
  | .tSubImm8 rd off => Sys2Proof.Machine.execTSubImm8 rd off s
  | .tAnd rs rd => Sys2Proof.Machine.execTAnd rs rd s
  | .tEor rs rd => Sys2Proof.Machine.execTEor rs rd s
  | .tLsl rs rd => Sys2Proof.Machine.execTLsl rs rd s
  | .tLsr rs rd => Sys2Proof.Machine.execTLsr rs rd s
  | .tAsr rs rd => Sys2Proof.Machine.execTAsr rs rd s
  | .tAdc rs rd => Sys2Proof.Machine.execTAdc rs rd s
  | .tSbc rs rd => Sys2Proof.Machine.execTSbc rs rd s
  | .tRor rs rd => Sys2Proof.Machine.execTRor rs rd s
  | .tTst rs rd => Sys2Proof.Machine.execTTst rs rd s
  | .tNeg rs rd => Sys2Proof.Machine.execTNeg rs rd s
  | .tCmp rs rd => Sys2Proof.Machine.execTCmp rs rd s
  | .tCmn rs rd => Sys2Proof.Machine.execTCmn rs rd s
  | .tOrr rs rd => Sys2Proof.Machine.execTOrr rs rd s
  | .tMul rs rd => Sys2Proof.Machine.execTMul rs rd s
  | .tBic rs rd => Sys2Proof.Machine.execTBic rs rd s
  | .tMvn rs rd => Sys2Proof.Machine.execTMvn rs rd s
  | .tAddHi d m => Sys2Proof.Machine.execTAddHi d m s
  | .tCmpHi d m => Sys2Proof.Machine.execTCmpHi d m s
  | .tMovHi d m => Sys2Proof.Machine.execTMovHi d m s
  | .tBx h1 m => Sys2Proof.Machine.execTBx h1 m s
  | .tLdrPc rd off => Sys2Proof.Machine.execTLdrPc rd off s
  | .tStrReg ro rb rd => Sys2Proof.Machine.execTStrReg ro rb rd s
  | .tStrhReg ro rb rd => Sys2Proof.Machine.execTStrhReg ro rb rd s
  | .tStrbReg ro rb rd => Sys2Proof.Machine.execTStrbReg ro rb rd s
  | .tLdsbReg ro rb rd => Sys2Proof.Machine.execTLdsbReg ro rb rd s
  | .tLdrReg ro rb rd => Sys2Proof.Machine.execTLdrReg ro rb rd s
  | .tLdrhReg ro rb rd => Sys2Proof.Machine.execTLdrhReg ro rb rd s
  | .tLdrbReg ro rb rd => Sys2Proof.Machine.execTLdrbReg ro rb rd s
  | .tLdshReg ro rb rd => Sys2Proof.Machine.execTLdshReg ro rb rd s
  | .tStrImm off rb rd => Sys2Proof.Machine.execTStrImm off rb rd s
  | .tLdrImm off rb rd => Sys2Proof.Machine.execTLdrImm off rb rd s
  | .tStrbImm off rb rd => Sys2Proof.Machine.execTStrbImm off rb rd s
  | .tLdrbImm off rb rd => Sys2Proof.Machine.execTLdrbImm off rb rd s
  | .tStrhImm off rb rd => Sys2Proof.Machine.execTStrhImm off rb rd s
  | .tLdrhImm off rb rd => Sys2Proof.Machine.execTLdrhImm off rb rd s
  | .tStrSp rd off => Sys2Proof.Machine.execTStrSp rd off s
  | .tLdrSp rd off => Sys2Proof.Machine.execTLdrSp rd off s
  | .tAddPc rd off => Sys2Proof.Machine.execTAddPc rd off s
  | .tAddSp rd off => Sys2Proof.Machine.execTAddSp rd off s
  | .tAddSpImm f off => Sys2Proof.Machine.execTAddSpImm f off s
  | .tPush r list => Sys2Proof.Machine.execTPush r list s
  | .tPop r list => Sys2Proof.Machine.execTPop r list s
  | .tUndef1011 => Sys2Proof.Machine.execTUndef1011 s
  | .tStmia rb list => Sys2Proof.Machine.execTStmia rb list s
  | .tLdmia rb list => Sys2Proof.Machine.execTLdmia rb list s
  | .tSwi comment => Sys2Proof.Machine.execTSwi comment s
  | .tUndefDe => Sys2Proof.Machine.execTUndefDe s
  | .tBCond c off => Sys2Proof.Machine.execTBCond c off s
  | .tB off => Sys2Proof.Machine.execTB off s
  | .tUndefE8 => Sys2Proof.Machine.execTUndefE8 s
  | .tBlHi off => Sys2Proof.Machine.execTBlHi off s
  | .tBlLo off => Sys2Proof.Machine.execTBlLo off s

end Sys2Proof.Machine
end

