-- ==== Sys2Proof/Machine/Step.lean ====
section
/-! DEFINITION. The step (70_reset_and_hazards.md R580), and how a word comes to stand where the step fetches. -/

namespace Sys2Proof.Machine

/-- One step (R580, 60_exceptions.md R545): a faulted state takes none; an interrupt is taken before the fetch; otherwise the instruction
at the program counter runs. The fetch may lie above the I/O window (20_memory.md R95). -/
def step (s : State) : Host.Outcome State Fault Refusal :=
  match s.fault with
  | some f => s.stop f
  | none =>
    match s.taken with
    | some e => .next (s.takeInputs.interrupt e)
    | none => s.takeInputs.access s.pc s.fw (exec s.fetchCode.decode s.takeInputs)

/-- A table word stored where the next step fetches (log 3): its bytes at the program counter, and the T bit that selects its table. -/
def State.withFetchWord (s : State) (nbits w : Nat) : State :=
  match codeOfTable nbits w with
  | some c => s.placeCode c
  | none => s

end Sys2Proof.Machine
end

