-- ==== Sys2Proof/Machine/Collaborator.lean ====
section
/-! DEFINITION. What the host and the external collaborators do between steps (70_reset_and_hazards.md R610 to R612), beside the step (log 18). -/

namespace Sys2Proof.Machine

/-- A collaborator's action between two steps (R611). -/
inductive Action where
  /-- `raise(b)` (60_exceptions.md R542). -/
  | raise (b : Fin 16)
  /-- `poke(addr, byte)`. -/
  | poke (a : Word) (b : Byte)
  /-- `set_cost(kind, top, width, seq, cycles)`. -/
  | setCost (k : Kind) (top : Nat) (w : Width) (q : Seq) (n : Nat)
  /-- `consume(n)`. -/
  | consume (n : DWord)
  /-- `drain()`, of the `n` events read so far. -/
  | drain (n : Nat)
  deriving DecidableEq, Repr

/-- A cost row with one entry replaced. -/
def setRowCost (r : CostRow) (w : Width) (q : Seq) (n : Nat) : CostRow :=
  match w, q with
  | .w8, .n => { r with n8 := n }
  | .w8, .s => { r with s8 := n }
  | .w16, .n => { r with n16 := n }
  | .w16, .s => { r with s16 := n }
  | .w32, .n => { r with n32 := n }
  | .w32, .s => { r with s32 := n }

/-- A cost table with one entry of the rows 0x08 to 0x0F replaced; there is no action on another row (R611). -/
def setTableCost (t : CostTable) (top : Nat) (w : Width) (q : Seq) (n : Nat) : Option CostTable :=
  match top with
  | 0x08 => some { t with top08 := setRowCost t.top08 w q n }
  | 0x09 => some { t with top09 := setRowCost t.top09 w q n }
  | 0x0A => some { t with top0A := setRowCost t.top0A w q n }
  | 0x0B => some { t with top0B := setRowCost t.top0B w q n }
  | 0x0C => some { t with top0C := setRowCost t.top0C w q n }
  | 0x0D => some { t with top0D := setRowCost t.top0D w q n }
  | 0x0E => some { t with top0E := setRowCost t.top0E w q n }
  | 0x0F => some { t with top0F := setRowCost t.top0F w q n }
  | _ => none

/-- The backing address of byte `j` of IF (10_state.md R53). -/
def ifByte (j : Nat) : Nat := Region.io.base + 0x202 + j

/-- `raise(b)` (60_exceptions.md R542): the IF bit set, without the quirk and without an event. With an `IO_WINDOW_LAST` below IF's bytes R542
does not say what it does; the bit is set in memory all the same, where nothing reads it (log 24, DESIGN CHOICE). -/
def State.raiseIrq (s : State) (b : Fin 16) : State :=
  let k := ifByte (b.val / 8)
  s.setMem (s.mem.set k (s.mem.get k ||| (1#8 <<< (b.val % 8))))

/-- `poke(addr, byte)` (R611): a byte of a writable region stored, without the quirk and without an event. -/
def State.poke (s : State) (a : Word) (b : Byte) : Option State :=
  match transform s.cfg a with
  | .mapped r l => if r.writable then some (s.setMem (s.mem.set (r.base + l) b)) else none
  | .unmapped => none
  | .outOfWindow => none

/-- An action, or none where R611 gives no such action. -/
def act (x : Action) (s : State) : Option State :=
  match x with
  | .raise b => some (s.raiseIrq b)
  | .poke a b => s.poke a b
  | .setCost .code top w q n => (setTableCost s.costCode top w q n).map fun t => { s with costCode := t }
  | .setCost .data top w q n => (setTableCost s.costData top w q n).map fun t => { s with costData := t }
  | .consume n => if n ≤ s.sched then some { s with sched := s.sched - n } else none
  | .drain n => if n ≤ s.ioEvents.length then some { s with ioEvents := s.ioEvents.drop n } else none

/-- The bytes of an image as memory lists them, from an address on. -/
def imageCells : Nat → List Byte → Memory
  | _, [] => []
  | k, b :: bs => if b = unlisted then imageCells (k + 1) bs else (k, b) :: imageCells (k + 1) bs

/-- Configure and reset (R572, R610) from the parameters, the three images, whose sizes they set, and the values of `FIQ_LINE` for the coming
steps, low after the last of them (R10, R541; the host may send another value with each step, `hostStep`). A parameter outside its type, a
`BIOS_IMAGE` of another length than 16384 bytes or a larger ROM or SRAM image is refused (93_implementation_defined.md I11). -/
def configure (c : Config) (code data : CostTable) (bios rom sram : List Byte) (fiq : List Bool) : Option State :=
  let d := { c with romSize := rom.length, sramSize := sram.length }
  if d.wf && decide (bios.length = 16384) then
    some { State.resetWith d code data
      (imageCells Region.bios.base bios ++ imageCells Region.rom.base rom ++ imageCells Region.sram.base sram) with fiqLine := fiq }
  else none

/-- A step with the fault mark as part of the state (10_state.md R55, R580): a fault leaves the state at its point in the instruction, marked. -/
def markStep (s : State) : State :=
  match step s with
  | .next t => t
  | .fault f => f.stuck
  | .refused _ => s

/-- What the host sends with a step (R610): the value of `FIQ_LINE` (60_exceptions.md R541), and the index of the step's draws, whose values are
free (00_scope.md R11; logs 5 and 6). -/
def State.withInputs (s : State) (fiq : Bool) (draw : Nat) : State := { s with fiqLine := [fiq], draws := draw }

/-- The host's step (R610): one step with the inputs it sends, answered with the new state and any fault mark. -/
def hostStep (fiq : Bool) (draw : Nat) (s : State) : State := markStep (s.withInputs fiq draw)

end Sys2Proof.Machine
end

