-- ==== Sys2Proof/Safety.lean ====
section
/-! DEFINITION. What holds of every state a run reaches, when a run has ended, and which modes are privileged. -/

namespace Sys2Proof.Machine

/-- CPSR.M names a mode (10_state.md R42). -/
def State.modeLegal (s : State) : Bool := (Mode.ofBits (modeField s.cpsr)).isSome

/-- The fetch address is aligned for the state (R39). -/
def State.pcAligned (s : State) : Bool := decide (alignPc s.thumb s.pc = s.pc)

/-- The invariant of every step: a legal mode, an aligned fetch address, memory in canonical form. -/
def State.Inv (s : State) : Prop := s.modeLegal = true ∧ s.pcAligned = true ∧ s.mem.wf = true

/-- A privileged mode is any mode but user (00_scope.md R19). -/
def Mode.privileged : Mode → Bool
  | .usr => false
  | .fiq | .irq | .svc | .abt | .und | .sys => true

/-- The end state of a run (70_reset_and_hazards.md R588): a branch to itself is next, there is no fault mark, no IRQ can be taken and the
FIQ line is low. -/
def State.ended (s : State) : Bool :=
  decide (s.fault = none) &&
    decide (s.fetchCode = if s.thumb then .thumb 0xE7FE else .arm 0xEAFFFFFE) &&
    (s.maskI || !s.irqLine) && !s.fiqNow

end Sys2Proof.Machine
end

