-- ==== Sys2Proof/Certificates/Slice0/Obligations.lean ====
section
/-! DEFINITION. The statements for the provers. The vocabulary stands first, in `Sys2Proof.Claims`: values and costs are said by plain arithmetic on words,
integers and addresses, and the frame of an instruction is every register, status word, byte of memory and counter it does not list. -/

namespace Sys2Proof.Claims

open Sys2Proof.Machine

/-! ## Frames -/

/-- The value a list gives a register, its first entry counting; a register that is not listed keeps `old`. -/
def valueIn : List (Phys × Word) → Word → Phys → Word
  | [], old, _ => old
  | (q, v) :: w, old, p => if p = q then v else valueIn w old p

/-- Every one of the 31 registers holds what the list gives it, and what it held where the list gives it nothing. -/
def RegistersAre (s t : State) (w : List (Phys × Word)) : Prop := ∀ p : Phys, t.regs.get p = valueIn w (s.regs.get p) p

/-- Every byte of memory reads as before, and no I/O event is recorded. -/
def MemoryKept (s t : State) : Prop := (∀ a : Word, t.read8 a = s.read8 a) ∧ t.mem = s.mem ∧ t.ioEvents = s.ioEvents

/-- Both counters advance by `n` cycles (20_memory.md R121, R122). -/
def Took (s t : State) (n : Nat) : Prop := t.cycles = s.cycles + BitVec.ofNat 64 n ∧ t.sched = s.sched + BitVec.ofNat 64 n

/-- What no instruction changes: the cost tables, the fault mark, the configuration and the step's inputs. -/
def RestKept (s t : State) : Prop :=
  t.costCode = s.costCode ∧ t.costData = s.costData ∧ t.fault = s.fault ∧ t.cfg = s.cfg ∧ t.fiqLine = s.fiqLine ∧ t.draws = s.draws

/-- All of the next state but memory: the registers listed, the two kinds of status word, the cycles. -/
def Core (s t : State) (w : List (Phys × Word)) (cpsr : Word) (spsr : Mode → Option Word) (n : Nat) : Prop :=
  RegistersAre s t w ∧ t.cpsr = cpsr ∧ (∀ m : Mode, t.spsr.get m = spsr m) ∧ Took s t n ∧ RestKept s t

/-- The instruction completes: the registers listed, CPSR and the cycles are as given, and everything else is as before. -/
def Runs (i : Instr) (s : State) (w : List (Phys × Word)) (cpsr : Word) (n : Nat) : Prop :=
  ∃ t : State, exec i s = .next t ∧ Core s t w cpsr s.spsr.get n ∧ MemoryKept s t

/-- What a byte reads as after `x` is written to it (20_memory.md R88, R89, R98): BIOS, ROM and addresses of no region are not changed. -/
def written (s : State) (b : Word) (x : Byte) : Byte :=
  match transform s.cfg b with
  | .mapped r l =>
    if r = .bios ∨ r = .rom then s.read8 b
    else if r = .io ∧ (l = 0x202 ∨ l = 0x203) then s.read8 b &&& ~~~x
    else x
  | .unmapped => 0
  | .outOfWindow => 0

/-- A store of the low `8 * w.bytes` bits of `v` at `a`: each stored byte reads as written; every address that is not the place of a stored byte
(two addresses with one transform are one place, R88) reads as before; one I/O event when `a` lies in the window (R96). -/
def StoresTo (s t : State) (w : Width) (a v : Word) : Prop :=
  (∀ b : Word, (∀ k, k < w.bytes → transform s.cfg b ≠ transform s.cfg (a + BitVec.ofNat 32 k)) → t.read8 b = s.read8 b) ∧
  (∀ k, k < w.bytes → t.read8 (a + BitVec.ofNat 32 k) = written s (a + BitVec.ofNat 32 k) (v.extractLsb' (8 * k) 8)) ∧
  t.ioEvents = s.ioEvents ++
    (if inWindow s.cfg a then [⟨w, a, v &&& BitVec.ofNat 32 (2 ^ (8 * w.bytes) - 1), ioSnapshot t.cfg t.mem⟩] else [])

/-- The words of a block written one after the other, the lowest address first (43_arm_load_store.md R350). -/
def memoryAfter (c : Config) : Memory → List (Word × Word) → Memory
  | m, [] => m
  | m, (a, v) :: ws => memoryAfter c (writeWord c m a v) ws

/-- The I/O events of the words of a block. -/
def eventsAfter (c : Config) : Memory → List (Word × Word) → List IoEvent
  | _, [] => []
  | m, (a, v) :: ws =>
    (if inWindow c a then [⟨.w32, a, v, ioSnapshot c (writeWord c m a v)⟩] else []) ++ eventsAfter c (writeWord c m a v) ws

/-- A block store: the words listed, and every address that is not the place of one of their bytes reads as before. -/
def StoresBlock (s t : State) (ws : List (Word × Word)) : Prop :=
  (∀ b : Word, (∀ x ∈ ws, ∀ k, k < 4 → transform s.cfg b ≠ transform s.cfg (x.1 + BitVec.ofNat 32 k)) → t.read8 b = s.read8 b) ∧
  t.mem = memoryAfter s.cfg s.mem ws ∧ t.ioEvents = s.ioEvents ++ eventsAfter s.cfg s.mem ws

/-! ## Conditions on a state -/

/-- An ARM instruction whose condition passes (30_encoding.md R141). -/
def Arm (s : State) (c : Cond) : Prop := s.thumb = false ∧ s.passes c = true

/-- The instruction is no UNPREDICTABLE case, or the policy gives the case its effect (00_scope.md R10). -/
def Permits (s : State) (ok : Prop) : Prop := s.cfg.unpredictable = .arm7tdmi ∨ ok

/-- Every word of a block may be accessed (20_memory.md R95). -/
def Accessible (s : State) (as : List Word) : Prop := ∀ a ∈ as, accessFaults s.cfg a .w32 = false

/-- Some byte of an access lies above the I/O window (20_memory.md R94, R95). -/
def ReachesAbove (s : State) (e : Word × Width) : Prop := ∃ k, k < e.2.bytes ∧ transform s.cfg (e.1 + BitVec.ofNat 32 k) = .outOfWindow

/-- Some byte of a word of a block lies above the I/O window. -/
def BlockReachesAbove (s : State) (as : List Word) : Prop := ∃ a ∈ as, ReachesAbove s (a, .w32)

/-- The words of a block before the first of which some byte lies above the I/O window. -/
def reachedWords (s : State) (as : List Word) : List Word := as.takeWhile fun a => !accessFaults s.cfg a .w32

/-- The model stops with fault `f`; `t`, with the fault mark set, is the state left (10_state.md R55, 70_reset_and_hazards.md R580). -/
def Halts (r : Result) (f : FaultName) (t : State) : Prop := r = .fault (f.fault { t with fault := some f })

/-- The instruction stops with fault `f` after the writes `w` to registers and after `n` cycles; everything else is as before. -/
def HaltsAfter (i : Instr) (s : State) (f : FaultName) (w : List (Phys × Word)) (n : Nat) : Prop :=
  ∃ t : State, Halts (exec i s) f t ∧ Core s t w s.cpsr s.spsr.get n ∧ MemoryKept s t

/-- The instruction stops above the I/O window after it has stored the words `ws`, with the writes `w` to registers and after `n` cycles. -/
def HaltsAfterStores (i : Instr) (s : State) (w : List (Phys × Word)) (ws : List (Word × Word)) (n : Nat) : Prop :=
  ∃ t : State, Halts (exec i s) .ioOutOfWindow t ∧ Core s t w s.cpsr s.spsr.get n ∧ StoresBlock s t ws

/-! ## Registers, flags and cycles -/

/-- Where a write of logical register `i` goes, and what it holds then (10_state.md R32, R38). -/
def dest (s : State) (i : Reg) (v : Word) : Phys × Word :=
  if i = 15 then (.r15, v &&& (if s.thumb then 0xFFFFFFFE#32 else 0xFFFFFFFC#32)) else (phys s.mode i, v)

/-- As `dest`, in the user bank (R34). -/
def destUser (s : State) (i : Reg) (v : Word) : Phys × Word :=
  if i = 15 then (.r15, v &&& (if s.thumb then 0xFFFFFFFE#32 else 0xFFFFFFFC#32)) else (phys .usr i, v)

/-- A low register. -/
def low (s : State) (r : LoReg) (v : Word) : Phys × Word := (phys s.mode r.toReg, v)

/-- A status word with its four flags replaced: bits 27:0 are as before (10_state.md R40, R45). -/
def flagged (psr : Word) (n z c v : Bool) : Word :=
  BitVec.ofBool n ++ BitVec.ofBool z ++ BitVec.ofBool c ++ BitVec.ofBool v ++ psr.extractLsb' 0 28

/-- N and Z of a 32-bit result, with C and V as given (40_shifter_alu_cond.md R219). -/
def flagsOf (psr r : Word) (c v : Bool) : Word := flagged psr (decide (r.toInt < 0)) (decide (r = 0)) c v

/-- A status word with its T bit replaced. -/
def withT (psr : Word) (t : Bool) : Word := psr.extractLsb' 6 26 ++ BitVec.ofBool t ++ psr.extractLsb' 0 5

/-- Whether an exact signed result does not fit 32 bits (R215). -/
def overflows (x : Int) : Bool := decide (x < -2147483648 ∨ 2147483647 < x)

/-- The instruction's own fetch (70_reset_and_hazards.md R590, `Sc`). -/
def own (s : State) : Nat := s.costOf .code .s (if s.thumb then .w16 else .w32) s.pc

/-- The refill after a write of pc_next (R590). -/
def refillAt (s : State) (thumb : Bool) (a : Word) : Nat :=
  s.costOf .code .n (if thumb then .w16 else .w32) a + s.costOf .code .s (if thumb then .w16 else .w32) a

/-- The fetch after a store (R590, `Nnext`), `w` the registers the store leaves. -/
def nextFetch (s : State) (w : List (Phys × Word)) : Nat :=
  s.costOf .code .n (if s.thumb then .w16 else .w32) (valueIn w s.pc .r15)

/-- The data accesses of a block: the first non-sequential, the rest sequential (R595). -/
def blockCost (s : State) : List Word → Nat
  | [] => 0
  | a :: as => s.costOf .data .n .w32 a + (as.map fun b => s.costOf .data .s .w32 b).sum

/-! ## Data processing -/

/-- Operand 2 (41_arm_data_processing.md R250). -/
inductive Operand2 where
  | imm (o : RotImm)
  | immShift (o : ImmShift)
  | regShift (o : RegShift)

/-- The instruction of an operation with an operand. -/
def dp : DpOp → Cond → Bool → Reg → Reg → Operand2 → Instr
  | .and, c, f, rn, rd, .imm o => .andImm c f rn rd o
  | .and, c, f, rn, rd, .immShift o => .andImmShift c f rn rd o
  | .and, c, f, rn, rd, .regShift o => .andRegShift c f rn rd o
  | .eor, c, f, rn, rd, .imm o => .eorImm c f rn rd o
  | .eor, c, f, rn, rd, .immShift o => .eorImmShift c f rn rd o
  | .eor, c, f, rn, rd, .regShift o => .eorRegShift c f rn rd o
  | .sub, c, f, rn, rd, .imm o => .subImm c f rn rd o
  | .sub, c, f, rn, rd, .immShift o => .subImmShift c f rn rd o
  | .sub, c, f, rn, rd, .regShift o => .subRegShift c f rn rd o
  | .rsb, c, f, rn, rd, .imm o => .rsbImm c f rn rd o
  | .rsb, c, f, rn, rd, .immShift o => .rsbImmShift c f rn rd o
  | .rsb, c, f, rn, rd, .regShift o => .rsbRegShift c f rn rd o
  | .add, c, f, rn, rd, .imm o => .addImm c f rn rd o
  | .add, c, f, rn, rd, .immShift o => .addImmShift c f rn rd o
  | .add, c, f, rn, rd, .regShift o => .addRegShift c f rn rd o
  | .adc, c, f, rn, rd, .imm o => .adcImm c f rn rd o
  | .adc, c, f, rn, rd, .immShift o => .adcImmShift c f rn rd o
  | .adc, c, f, rn, rd, .regShift o => .adcRegShift c f rn rd o
  | .sbc, c, f, rn, rd, .imm o => .sbcImm c f rn rd o
  | .sbc, c, f, rn, rd, .immShift o => .sbcImmShift c f rn rd o
  | .sbc, c, f, rn, rd, .regShift o => .sbcRegShift c f rn rd o
  | .rsc, c, f, rn, rd, .imm o => .rscImm c f rn rd o
  | .rsc, c, f, rn, rd, .immShift o => .rscImmShift c f rn rd o
  | .rsc, c, f, rn, rd, .regShift o => .rscRegShift c f rn rd o
  | .tst, c, _, rn, _, .imm o => .tstImm c rn o
  | .tst, c, _, rn, _, .immShift o => .tstImmShift c rn o
  | .tst, c, _, rn, _, .regShift o => .tstRegShift c rn o
  | .teq, c, _, rn, _, .imm o => .teqImm c rn o
  | .teq, c, _, rn, _, .immShift o => .teqImmShift c rn o
  | .teq, c, _, rn, _, .regShift o => .teqRegShift c rn o
  | .cmp, c, _, rn, _, .imm o => .cmpImm c rn o
  | .cmp, c, _, rn, _, .immShift o => .cmpImmShift c rn o
  | .cmp, c, _, rn, _, .regShift o => .cmpRegShift c rn o
  | .cmn, c, _, rn, _, .imm o => .cmnImm c rn o
  | .cmn, c, _, rn, _, .immShift o => .cmnImmShift c rn o
  | .cmn, c, _, rn, _, .regShift o => .cmnRegShift c rn o
  | .orr, c, f, rn, rd, .imm o => .orrImm c f rn rd o
  | .orr, c, f, rn, rd, .immShift o => .orrImmShift c f rn rd o
  | .orr, c, f, rn, rd, .regShift o => .orrRegShift c f rn rd o
  | .mov, c, f, _, rd, .imm o => .movImm c f rd o
  | .mov, c, f, _, rd, .immShift o => .movImmShift c f rd o
  | .mov, c, f, _, rd, .regShift o => .movRegShift c f rd o
  | .bic, c, f, rn, rd, .imm o => .bicImm c f rn rd o
  | .bic, c, f, rn, rd, .immShift o => .bicImmShift c f rn rd o
  | .bic, c, f, rn, rd, .regShift o => .bicRegShift c f rn rd o
  | .mvn, c, f, _, rd, .imm o => .mvnImm c f rd o
  | .mvn, c, f, _, rd, .immShift o => .mvnImmShift c f rd o
  | .mvn, c, f, _, rd, .regShift o => .mvnRegShift c f rd o

/-- The operations that write no register (R255). -/
def compares : DpOp → Bool
  | .tst | .teq | .cmp | .cmn => true
  | .and | .eor | .sub | .rsb | .add | .adc | .sbc | .rsc | .orr | .mov | .bic | .mvn => false

/-- Whether operand 2 is shifted by a register. -/
def Operand2.byRegister : Operand2 → Bool
  | .regShift _ => true
  | .imm _ | .immShift _ => false

/-- Operand 2 and the shifter carry; register 15 reads as R251 says. -/
def Operand2.value (s : State) : Operand2 → Word × Bool
  | .imm o => rotateImm o s.flagC
  | .immShift o => shiftImm o.ty (s.reg o.rm) o.amt s.flagC
  | .regShift o => shiftReg o.ty (s.regLate o.rm) ((s.regLate o.rs).extractLsb' 0 8) s.flagC

/-- The first operand; register 15 reads as R251 says. -/
def Operand2.first (s : State) (x : Operand2) (rn : Reg) : Word := if x.byRegister then s.regLate rn else s.reg rn

/-- The internal cycle of a shift by a register (R591). -/
def Operand2.cycles (x : Operand2) : Nat := if x.byRegister then 1 else 0

/-- One or zero. -/
def one (b : Bool) : Word := if b then 1 else 0

/-- The result of an operation on its operands and the carry flag (40_shifter_alu_cond.md R216, R217, R218). -/
def dpValue (op : DpOp) (a b : Word) (carry : Bool) : Word :=
  match op with
  | .and | .tst => a &&& b
  | .eor | .teq => a ^^^ b
  | .orr => a ||| b
  | .bic => a &&& ~~~b
  | .mov => b
  | .mvn => ~~~b
  | .add | .cmn => a + b
  | .adc => a + b + one carry
  | .sub | .cmp => a - b
  | .sbc => a - b - one (!carry)
  | .rsb => b - a
  | .rsc => b - a - one (!carry)

/-- The carry flag an operation leaves (R216, R220, R221): the shifter carry of a logical operation, the 33rd bit of an addition, no borrow of a
subtraction. -/
def dpCarry (op : DpOp) (a b : Word) (shift carry : Bool) : Bool :=
  match op with
  | .and | .tst | .eor | .teq | .orr | .bic | .mov | .mvn => shift
  | .add | .cmn => decide (4294967296 ≤ a.toNat + b.toNat)
  | .adc => decide (4294967296 ≤ a.toNat + b.toNat + carry.toNat)
  | .sub | .cmp => decide (b.toNat ≤ a.toNat)
  | .sbc => decide (b.toNat + (!carry).toNat ≤ a.toNat)
  | .rsb => decide (a.toNat ≤ b.toNat)
  | .rsc => decide (a.toNat + (!carry).toNat ≤ b.toNat)

/-- The overflow flag an operation leaves (R220, R221): the old one after a logical operation, otherwise whether the exact signed result does not
fit. -/
def dpOverflow (op : DpOp) (a b : Word) (carry old : Bool) : Bool :=
  match op with
  | .and | .tst | .eor | .teq | .orr | .bic | .mov | .mvn => old
  | .add | .cmn => overflows (a.toInt + b.toInt)
  | .adc => overflows (a.toInt + b.toInt + carry.toNat)
  | .sub | .cmp => overflows (a.toInt - b.toInt)
  | .sbc => overflows (a.toInt - b.toInt - (!carry).toNat)
  | .rsb => overflows (b.toInt - a.toInt)
  | .rsc => overflows (b.toInt - a.toInt - (!carry).toNat)

/-- CPSR after a flag-setting operation. -/
def dpFlags (s : State) (op : DpOp) (a : Word) (x : Word × Bool) : Word :=
  flagsOf s.cpsr (dpValue op a x.1 s.flagC) (dpCarry op a x.1 x.2 s.flagC) (dpOverflow op a x.1 s.flagC s.flagV)

/-- The operand of MSR (R281). -/
def msrValue (s : State) : Reg ⊕ RotImm → Word
  | .inl rm => s.reg rm
  | .inr o => (o.imm8.setWidth 32).rotateRight (2 * o.rot.toNat)

/-- MSR with either operand. -/
def msr (c : Cond) (r : Bool) (mask : BitVec 4) : Reg ⊕ RotImm → Instr
  | .inl rm => .msrReg c r mask rm
  | .inr o => .msrImm c r mask o

/-- The word MSR leaves (R282 to R284): the flag byte with mask bit 3, the control byte with mask bit 0 where that is allowed, never bits 23:8. -/
def msrWord (old value : Word) (mask : BitVec 4) (control : Bool) : Word :=
  (if mask.getLsbD 3 then value.extractLsb' 24 8 else old.extractLsb' 24 8) ++ old.extractLsb' 8 16 ++
    (if mask.getLsbD 0 && control then value.extractLsb' 0 8 else old.extractLsb' 0 8)

/-! ## Multiplication -/

/-- `m_s` of 70_reset_and_hazards.md R593: bits from `k` up all alike means a signed value of at most `k` bits and a sign. -/
def signedCycles (x : Word) : Nat :=
  if -256 ≤ x.toInt ∧ x.toInt < 256 then 1
  else if -65536 ≤ x.toInt ∧ x.toInt < 65536 then 2
  else if -16777216 ≤ x.toInt ∧ x.toInt < 16777216 then 3
  else 4

/-- `m_u` of R593. -/
def unsignedCycles (x : Word) : Nat :=
  if x.toNat < 256 then 1 else if x.toNat < 65536 then 2 else if x.toNat < 16777216 then 3 else 4

/-- The four long multiplies. -/
inductive LongMul where
  | umull | umlal | smull | smlal

/-- The instruction. -/
def LongMul.instr : LongMul → Cond → Bool → Reg → Reg → Reg → Reg → Instr
  | .umull => .umull
  | .umlal => .umlal
  | .smull => .smull
  | .smlal => .smlal

/-- The 64-bit result: the exact product, and the accumulator of the accumulating forms (42_arm_multiply.md R300, R304 to R307). -/
def LongMul.value (k : LongMul) (a b hi lo : Word) : DWord :=
  match k with
  | .umull => BitVec.ofNat 64 (a.toNat * b.toNat)
  | .umlal => BitVec.ofNat 64 (a.toNat * b.toNat + (hi.toNat * 4294967296 + lo.toNat))
  | .smull => BitVec.ofInt 64 (a.toInt * b.toInt)
  | .smlal => BitVec.ofInt 64 (a.toInt * b.toInt + (hi.toInt * 4294967296 + lo.toNat))

/-- The internal cycles, `x` the value of Rs (R593). -/
def LongMul.cycles (k : LongMul) (x : Word) : Nat :=
  match k with
  | .umull => unsignedCycles x + 1
  | .umlal => unsignedCycles x + 2
  | .smull => signedCycles x + 1
  | .smlal => signedCycles x + 2

/-! ## Single transfers -/

/-- The address a load issues and the width it moves (20_memory.md R85; for a signed halfword at an odd address the byte, log 14). -/
def issued (k : LoadKind) (a : Word) : Word × Width :=
  match k with
  | .word => (a &&& 0xFFFFFFFC, .w32)
  | .half => (a &&& 0xFFFFFFFE, .w16)
  | .byte | .sbyte => (a, .w8)
  | .shalf => if a.toNat % 2 = 1 then (a, .w8) else (a, .w16)

/-- What a load of address `a` puts into its register (43_arm_load_store.md R322, R323, R336, R337, R339). -/
def loaded (s : State) (k : LoadKind) (a : Word) : Word :=
  match k with
  | .word => (s.read32 (a &&& 0xFFFFFFFC)).rotateRight (8 * (a.toNat % 4))
  | .byte => (s.read8 a).setWidth 32
  | .half => ((s.read16 (a &&& 0xFFFFFFFE)).setWidth 32).rotateRight (8 * (a.toNat % 2))
  | .sbyte => (s.read8 a).signExtend 32
  | .shalf => if a.toNat % 2 = 1 then (s.read8 a).signExtend 32 else (s.read16 a).signExtend 32

/-- The address a store issues and the width it moves (R325, R326, R338). -/
def storeAt (k : StoreKind) (a : Word) : Word × Width :=
  match k with
  | .word => (a &&& 0xFFFFFFFC, .w32)
  | .half => (a &&& 0xFFFFFFFE, .w16)
  | .byte => (a, .w8)

/-- `offaddr` (R320). -/
def offsetAddress (m : Idx) (base offset : Word) : Word := if m.u then base + offset else base - offset

/-- `addr` (R320). -/
def transferAddress (m : Idx) (base offset : Word) : Word := if m.p then offsetAddress m base offset else base

/-- `wback` (R320). -/
def writesBack (m : Idx) : Bool := !m.p || m.w

/-- The offset of a word or byte transfer: twelve bits, or a register shifted by an immediate (R320). -/
def wordOffset (s : State) : BitVec 12 ⊕ ImmShift → Word
  | .inl off => off.setWidth 32
  | .inr o => (shiftImm o.ty (s.reg o.rm) o.amt s.flagC).1

/-- The offset of a halfword transfer: eight bits, or a register (R335). -/
def halfOffset (s : State) : BitVec 8 ⊕ Reg → Word
  | .inl off => off.setWidth 32
  | .inr rm => s.reg rm

/-- LDR and LDRB; post-indexed with W = 1 they are the T forms (R327, R328). -/
def loadWordOrByte (byte : Bool) (c : Cond) (m : Idx) (rn rd : Reg) (x : BitVec 12 ⊕ ImmShift) : Instr :=
  match byte, !m.p && m.w, x with
  | false, false, .inl off => .ldrImm c m rn rd off
  | false, false, .inr o => .ldrReg c m rn rd o
  | false, true, .inl off => .ldrtImm c m.u rn rd off
  | false, true, .inr o => .ldrtReg c m.u rn rd o
  | true, false, .inl off => .ldrbImm c m rn rd off
  | true, false, .inr o => .ldrbReg c m rn rd o
  | true, true, .inl off => .ldrbtImm c m.u rn rd off
  | true, true, .inr o => .ldrbtReg c m.u rn rd o

/-- STR and STRB; post-indexed with W = 1 they are the T forms (R329, R330). -/
def storeWordOrByte (byte : Bool) (c : Cond) (m : Idx) (rn rd : Reg) (x : BitVec 12 ⊕ ImmShift) : Instr :=
  match byte, !m.p && m.w, x with
  | false, false, .inl off => .strImm c m rn rd off
  | false, false, .inr o => .strReg c m rn rd o
  | false, true, .inl off => .strtImm c m.u rn rd off
  | false, true, .inr o => .strtReg c m.u rn rd o
  | true, false, .inl off => .strbImm c m rn rd off
  | true, false, .inr o => .strbReg c m rn rd o
  | true, true, .inl off => .strbtImm c m.u rn rd off
  | true, true, .inr o => .strbtReg c m.u rn rd o

/-- The three halfword and signed loads. -/
inductive HalfLoad where
  | ldrh | ldrsb | ldrsh

/-- What each loads. -/
def HalfLoad.kind : HalfLoad → LoadKind
  | .ldrh => .half
  | .ldrsb => .sbyte
  | .ldrsh => .shalf

/-- The instruction. -/
def HalfLoad.instr (h : HalfLoad) (c : Cond) (m : Idx) (rn rd : Reg) (x : BitVec 8 ⊕ Reg) : Instr :=
  match h, x with
  | .ldrh, .inl off => .ldrhImm c m rn rd off
  | .ldrh, .inr rm => .ldrhReg c m rn rd rm
  | .ldrsb, .inl off => .ldrsbImm c m rn rd off
  | .ldrsb, .inr rm => .ldrsbReg c m rn rd rm
  | .ldrsh, .inl off => .ldrshImm c m rn rd off
  | .ldrsh, .inr rm => .ldrshReg c m rn rd rm

/-- STRH. -/
def storeHalf (c : Cond) (m : Idx) (rn rd : Reg) (x : BitVec 8 ⊕ Reg) : Instr :=
  match x with
  | .inl off => .strhImm c m rn rd off
  | .inr rm => .strhReg c m rn rd rm

/-- No restriction of R321 is broken. -/
def wordRegular (load byte : Bool) (m : Idx) (rn rd : Reg) (x : BitVec 12 ⊕ ImmShift) : Prop :=
  (writesBack m = true → rn ≠ 15) ∧ (load = true → writesBack m = true → rn ≠ rd) ∧ (∀ o, x = .inr o → o.rm ≠ 15) ∧
    (load = true → byte = true → rd ≠ 15)

/-- No restriction of R335 and R336 is broken. -/
def halfRegular (load : Bool) (m : Idx) (rn rd : Reg) (x : BitVec 8 ⊕ Reg) : Prop :=
  (m.p = false → m.w = false) ∧ (writesBack m = true → rn ≠ 15) ∧ (load = true → writesBack m = true → rn ≠ rd) ∧
    (∀ rm, x = .inr rm → rm ≠ 15) ∧ (load = true → rd ≠ 15)

/-- The registers a load leaves: its own, its base where it is written back, and the program counter. -/
def loadWrites (s : State) (m : Idx) (rn rd : Reg) (v back : Word) : List (Phys × Word) :=
  [dest s rd v] ++ (if writesBack m then [dest s rn back] else []) ++ [(.r15, s.pc + 4)]

/-- The registers a store leaves. -/
def storeWrites (s : State) (m : Idx) (rn : Reg) (back : Word) : List (Phys × Word) :=
  (if writesBack m then [dest s rn back] else []) ++ [(.r15, s.pc + 4)]

/-- An ARM load runs (R320, 70_reset_and_hazards.md R594). -/
def LoadRuns (i : Instr) (s : State) (k : LoadKind) (m : Idx) (rn rd : Reg) (offset : Word) : Prop :=
  let a := transferAddress m (s.reg rn) offset
  let v := loaded s k a
  Runs i s (loadWrites s m rn rd v (offsetAddress m (s.reg rn) offset)) s.cpsr
    (s.costOf .data .n (issued k a).2 (issued k a).1 + own s + 1 + (if rd = 15 then refillAt s false (v &&& 0xFFFFFFFC) else 0))

/-- An ARM store runs (R320, R594): the address stored to is `(storeAt k a).1`. -/
def StoreRuns (i : Instr) (s : State) (k : StoreKind) (m : Idx) (rn rd : Reg) (offset : Word) : Prop :=
  let a := storeAt k (transferAddress m (s.reg rn) offset)
  let w := storeWrites s m rn (offsetAddress m (s.reg rn) offset)
  ∃ t : State, exec i s = .next t ∧ Core s t w s.cpsr s.spsr.get (s.costOf .data .n a.2 a.1 + nextFetch s w) ∧
    StoresTo s t a.2 a.1 (s.regLate rd)

/-! ## Block transfers -/

/-- The registers of a list, in increasing number (R345). -/
def registers (list : BitVec 16) : List Reg := (List.finRange 16).filter fun i => list.getLsbD i.val

/-- The addresses of `n` consecutive words, each used as `a & 0xFFFFFFFC` (R345). -/
def wordsFrom (start : Word) (n : Nat) : List Word :=
  (List.range n).map fun k => (start + BitVec.ofNat 32 (4 * k)) &&& 0xFFFFFFFC

/-- `start` (R345), `n` the number of registers. -/
def blockFrom (m : Idx) (base : Word) (n : Nat) : Word :=
  match m.p, m.u with
  | false, true => base
  | true, true => base + 4
  | false, false => base - BitVec.ofNat 32 (4 * n) + 4
  | true, false => base - BitVec.ofNat 32 (4 * n)

/-- The write-back value (R345). -/
def blockEnd (m : Idx) (base : Word) (n : Nat) : Word :=
  if m.u then base + BitVec.ofNat 32 (4 * n) else base - BitVec.ofNat 32 (4 * n)

/-- The registers a block load leaves but for those after it: each register of the list with its word. -/
def blockLoads (s : State) (user : Bool) (rs : List Reg) (as : List Word) : List (Phys × Word) :=
  (rs.zip as).map fun x => if user then destUser s x.1 (s.read32 x.2) else dest s x.1 (s.read32 x.2)

/-- What a store-multiple stores for register `i` (R350, R351, R352, R356). -/
def blockValue (s : State) (user : Bool) (rs : List Reg) (wb : Bool) (rn : Reg) (back : Word) (i : Reg) : Word :=
  if i = 15 then s.regLate 15
  else if i = rn ∧ wb = true ∧ rs.head? ≠ some i then back
  else s.regs.get (phys (if user then .usr else s.mode) i)

/-! ## Exceptions -/

/-- Exception entry (60_exceptions.md R530): the old CPSR in the target mode's SPSR, the mode, T = 0, I = 1, F set by FIQ, the other bits of CPSR
as they were, the return link in the target mode's register 14, the program counter at the vector; memory and every other register as before. -/
def Enters (s t : State) (m : Mode) (setF : Bool) (vector link : Word) (n : Nat) : Prop :=
  RegistersAre s t [(.r15, vector), (phys m 14, link)] ∧
  (∀ j, j < 32 → t.cpsr.getLsbD j =
    if j < 5 then m.bits.getLsbD j else if j = 5 then false else if j = 6 then setF || s.cpsr.getLsbD 6 else if j = 7 then true
    else s.cpsr.getLsbD j) ∧
  (∀ k : Mode, t.spsr.get k = if k = m then some s.cpsr else s.spsr.get k) ∧ MemoryKept s t ∧ Took s t n

/-- The address an exception return goes to, `psr` the status word it restores: aligned for the restored T bit, and under `stepwise`, the words of R259
and R357, for ARM state before that (log 4). -/
def returnAddress (r : ReturnAlign) (psr v : Word) : Word :=
  (match r with
    | .stepwise => v &&& 0xFFFFFFFC
    | .restored => v) &&& (if psr.getLsbD 5 then 0xFFFFFFFE#32 else 0xFFFFFFFC#32)

/-- The undefined rows of the 32-bit table, the coprocessor space among them (44_arm_branch_system.md R385, R390). -/
def armUndefined (c : Cond) : List Instr :=
  [.undefMul c, .undefSwp c, .undefHalfwordStore c, .undefMisc c, .undefImmCmp c, .undefMedia c, .coprocXfer c, .coprocOp c]

/-- The undefined rows of the 16-bit table (R390). -/
def thumbUndefined : List Instr := [.tUndef1011, .tUndefDe, .tUndefE8]

/-- The condition of an instruction (30_encoding.md R141); a Thumb instruction is unconditional (R159; the conditional branch tests its own). -/
def conditionOf : Instr → Cond
  | .mul c .. | .mla c .. | .undefMul c | .umull c .. | .umlal c .. | .smull c .. | .smlal c .. | .swp c .. | .swpb c ..
  | .undefSwp c | .strhReg c .. | .strhImm c .. | .ldrhReg c .. | .ldrhImm c .. | .ldrsbReg c .. | .ldrsbImm c .. | .ldrshReg c ..
  | .ldrshImm c .. | .undefHalfwordStore c | .mrs c .. | .msrReg c .. | .bx c .. | .undefMisc c | .msrImm c .. | .undefImmCmp c
  | .andImm c .. | .andImmShift c .. | .andRegShift c .. | .eorImm c .. | .eorImmShift c .. | .eorRegShift c .. | .subImm c ..
  | .subImmShift c .. | .subRegShift c .. | .rsbImm c .. | .rsbImmShift c .. | .rsbRegShift c .. | .addImm c .. | .addImmShift c ..
  | .addRegShift c .. | .adcImm c .. | .adcImmShift c .. | .adcRegShift c .. | .sbcImm c .. | .sbcImmShift c .. | .sbcRegShift c ..
  | .rscImm c .. | .rscImmShift c .. | .rscRegShift c .. | .tstImm c .. | .tstImmShift c .. | .tstRegShift c .. | .teqImm c ..
  | .teqImmShift c .. | .teqRegShift c .. | .cmpImm c .. | .cmpImmShift c .. | .cmpRegShift c .. | .cmnImm c .. | .cmnImmShift c ..
  | .cmnRegShift c .. | .orrImm c .. | .orrImmShift c .. | .orrRegShift c .. | .movImm c .. | .movImmShift c .. | .movRegShift c ..
  | .bicImm c .. | .bicImmShift c .. | .bicRegShift c .. | .mvnImm c .. | .mvnImmShift c .. | .mvnRegShift c .. | .ldrtImm c ..
  | .ldrtReg c .. | .ldrbtImm c .. | .ldrbtReg c .. | .strtImm c .. | .strtReg c .. | .strbtImm c .. | .strbtReg c .. | .ldrImm c ..
  | .ldrReg c .. | .ldrbImm c .. | .ldrbReg c .. | .strImm c .. | .strReg c .. | .strbImm c .. | .strbReg c .. | .undefMedia c
  | .ldmRet c .. | .ldmUser c .. | .stmUser c .. | .ldm c .. | .stm c .. | .b c .. | .bl c .. | .coprocXfer c | .coprocOp c
  | .swi c .. => c
  | .tLslImm .. | .tLsrImm .. | .tAsrImm .. | .tAddReg .. | .tSubReg .. | .tAddImm3 .. | .tSubImm3 .. | .tMovImm .. | .tCmpImm ..
  | .tAddImm8 .. | .tSubImm8 .. | .tAnd .. | .tEor .. | .tLsl .. | .tLsr .. | .tAsr .. | .tAdc .. | .tSbc .. | .tRor .. | .tTst ..
  | .tNeg .. | .tCmp .. | .tCmn .. | .tOrr .. | .tMul .. | .tBic .. | .tMvn .. | .tAddHi .. | .tCmpHi .. | .tMovHi .. | .tBx ..
  | .tLdrPc .. | .tStrReg .. | .tStrhReg .. | .tStrbReg .. | .tLdsbReg .. | .tLdrReg .. | .tLdrhReg .. | .tLdrbReg .. | .tLdshReg ..
  | .tStrImm .. | .tLdrImm .. | .tStrbImm .. | .tLdrbImm .. | .tStrhImm .. | .tLdrhImm .. | .tStrSp .. | .tLdrSp .. | .tAddPc ..
  | .tAddSp .. | .tAddSpImm .. | .tPush .. | .tPop .. | .tUndef1011 | .tStmia .. | .tLdmia .. | .tSwi .. | .tUndefDe | .tBCond ..
  | .tB .. | .tUndefE8 | .tBlHi .. | .tBlLo .. => .al

/-- Whether an instruction is an undefined encoding. -/
def Undefined (i : Instr) : Prop := (∃ c, i ∈ armUndefined c) ∨ i ∈ thumbUndefined

/-- Whether an instruction is SWI. -/
def CallsSupervisor (i : Instr) : Prop := (∃ c x, i = .swi c x) ∨ (∃ x, i = .tSwi x)

/-- Whether an instruction returns from an exception (60_exceptions.md R535). -/
def Returns (i : Instr) : Prop :=
  (∃ op c rn x, compares op = false ∧ i = dp op c true rn 15 x) ∨ (∃ c m rn list, i = .ldmRet c m rn list)

/-! ## The UNPREDICTABLE cases -/

/-- The block transfers of the 32-bit table. -/
def blocks (c : Cond) (m : Idx) (rn : Reg) (list : BitVec 16) : List Instr :=
  [.ldmRet c m rn list, .ldmUser c m rn list, .stmUser c m rn list, .ldm c m rn list, .stm c m rn list]

/-- Which instruction is which UNPREDICTABLE case in which state: the table of 93_implementation_defined.md section 2. -/
inductive Unpredictable : Unpred → Instr → State → Prop
  | dp (s op c f rn x) : compares op = false → x.byRegister = true → Unpredictable .dpRegshiftRd15 (dp op c f rn 15 x) s
  | mrs (s c r) : Unpredictable .mrsRd15 (.mrs c r 15) s
  | msr (s c r mask) : Unpredictable .msrRm15 (.msrReg c r mask 15) s
  | msrT (s c mask x) : (msrWord s.cpsr (msrValue s x) mask (decide (s.mode ≠ .usr))).getLsbD 5 ≠ s.thumb →
      Unpredictable .msrTChange (msr c false mask x) s
  | mul15 (s c f rd rs rm) : rd = 15 ∨ rs = 15 ∨ rm = 15 → Unpredictable .mulR15 (.mul c f rd rs rm) s
  | mla15 (s c f rd rn rs rm) : rd = 15 ∨ rn = 15 ∨ rs = 15 ∨ rm = 15 → Unpredictable .mulR15 (.mla c f rd rn rs rm) s
  | mulEq (s c f r rs) : Unpredictable .mulRdEqRm (.mul c f r rs r) s
  | mlaEq (s c f r rn rs) : Unpredictable .mulRdEqRm (.mla c f r rn rs r) s
  | mull15 (s k c f hi lo rs rm) : hi = 15 ∨ lo = 15 ∨ rs = 15 ∨ rm = 15 → Unpredictable .mullR15 (LongMul.instr k c f hi lo rs rm) s
  | mullOverlap (s k c f hi lo rs rm) : hi = lo ∨ hi = rm ∨ lo = rm → Unpredictable .mullRegOverlap (LongMul.instr k c f hi lo rs rm) s
  | loadBack15 (s byte c m rd x) : writesBack m = true → Unpredictable .ldstWbRn15 (loadWordOrByte byte c m 15 rd x) s
  | storeBack15 (s byte c m rd x) : writesBack m = true → Unpredictable .ldstWbRn15 (storeWordOrByte byte c m 15 rd x) s
  | halfLoadBack15 (s h c m rd x) : writesBack m = true → Unpredictable .ldstWbRn15 (HalfLoad.instr h c m 15 rd x) s
  | halfStoreBack15 (s c m rd x) : writesBack m = true → Unpredictable .ldstWbRn15 (storeHalf c m 15 rd x) s
  | loadBackEq (s byte c m r x) : writesBack m = true → Unpredictable .ldrWbRnEqRd (loadWordOrByte byte c m r r x) s
  | halfLoadBackEq (s h c m r x) : writesBack m = true → Unpredictable .ldrWbRnEqRd (HalfLoad.instr h c m r r x) s
  | loadRm15 (s byte c m rn rd ty n) : Unpredictable .ldstRm15 (loadWordOrByte byte c m rn rd (.inr ⟨15, ty, n⟩)) s
  | storeRm15 (s byte c m rn rd ty n) : Unpredictable .ldstRm15 (storeWordOrByte byte c m rn rd (.inr ⟨15, ty, n⟩)) s
  | byte15 (s c m rn x) : Unpredictable .ldrbRd15 (loadWordOrByte true c m rn 15 x) s
  | halfLoadPost (s h c u rn rd x) : Unpredictable .halfPostW (HalfLoad.instr h c ⟨false, u, true⟩ rn rd x) s
  | halfStorePost (s c u rn rd x) : Unpredictable .halfPostW (storeHalf c ⟨false, u, true⟩ rn rd x) s
  | halfLoadRm15 (s h c m rn rd) : Unpredictable .halfRm15 (HalfLoad.instr h c m rn rd (.inr 15)) s
  | halfStoreRm15 (s c m rn rd) : Unpredictable .halfRm15 (storeHalf c m rn rd (.inr 15)) s
  | halfLoad15 (s h c m rn x) : Unpredictable .ldrhRd15 (HalfLoad.instr h c m rn 15 x) s
  | block15 (s c m list i) : i ∈ blocks c m 15 list → Unpredictable .ldmRn15 i s
  | blockEmpty (s c m rn i) : i ∈ blocks c m rn 0 → Unpredictable .ldmEmpty i s
  | userInUsr (s c m rn list i) : s.mode = .usr → i ∈ [Instr.ldmUser c m rn list, .stmUser c m rn list] → Unpredictable .ldmUserInUsr i s
  | userBack (s c m rn list i) : m.w = true → i ∈ [Instr.ldmUser c m rn list, .stmUser c m rn list] → Unpredictable .ldmUserWb i s
  | swap15 (s c rn rd rm i) : rn = 15 ∨ rd = 15 ∨ rm = 15 → i ∈ [Instr.swp c rn rd rm, .swpb c rn rd rm] → Unpredictable .swpR15 i s
  | swapEq (s c rn rd rm i) : rn = rd ∨ rn = rm → i ∈ [Instr.swp c rn rd rm, .swpb c rn rd rm] → Unpredictable .swpRnOverlap i s
  | bxTarget (s c rm) : (s.reg rm).toNat % 4 = 2 → Unpredictable .bxArmMisaligned (.bx c rm) s
  | tBxTarget (s h1 m) : (s.reg m).toNat % 4 = 2 → Unpredictable .bxArmMisaligned (.tBx h1 m) s
  | bxPc (s c) : Unpredictable .bxPc (.bx c 15) s
  | lowLow (s d m i) : d.val < 8 → m.val < 8 → i ∈ [Instr.tAddHi d m, .tCmpHi d m, .tMovHi d m] → Unpredictable .thumbHiregLowlow i s
  | tBxH1 (s m) : Unpredictable .thumbBxH1 (.tBx true m) s
  | multipleEmpty (s rb i) : i ∈ [Instr.tStmia rb 0, .tLdmia rb 0] → Unpredictable .thumbLdmstmEmpty i s
  | stackEmpty (s i) : i ∈ [Instr.tPush false 0, .tPop false 0] → Unpredictable .thumbPushpopEmpty i s

/-! ## Thumb -/

/-- A Thumb instruction that writes a low register and the flags (45_thumb_alu.md R400), with `n` internal cycles. -/
def LowWrites (i : Instr) (s : State) (rd : LoReg) (r : Word) (c v : Bool) (n : Nat) : Prop :=
  Runs i s [low s rd r, (.r15, s.pc + 2)] (flagsOf s.cpsr r c v) (own s + n)

/-- A Thumb instruction that writes the flags only. -/
def OnlyFlags (i : Instr) (s : State) (r : Word) (c v : Bool) : Prop :=
  Runs i s [(.r15, s.pc + 2)] (flagsOf s.cpsr r c v) (own s)

/-- A Thumb addition: the sum, and the flags of R221. -/
def Adds (i : Instr) (s : State) (rd : LoReg) (a b : Word) : Prop :=
  LowWrites i s rd (a + b) (decide (4294967296 ≤ a.toNat + b.toNat)) (overflows (a.toInt + b.toInt)) 0

/-- A Thumb subtraction: the difference, C = no borrow. -/
def Subtracts (i : Instr) (s : State) (rd : LoReg) (a b : Word) : Prop :=
  LowWrites i s rd (a - b) (decide (b.toNat ≤ a.toNat)) (overflows (a.toInt - b.toInt)) 0

/-- A Thumb compare: the flags of the difference. -/
def ComparesThumb (i : Instr) (s : State) (a b : Word) : Prop :=
  OnlyFlags i s (a - b) (decide (b.toNat ≤ a.toNat)) (overflows (a.toInt - b.toInt))

/-- A Thumb load runs (46_thumb_load_store.md R450, 70_reset_and_hazards.md R598). -/
def ThumbLoads (i : Instr) (s : State) (k : LoadKind) (a : Word) (rd : LoReg) : Prop :=
  accessFaults s.cfg (issued k a).1 (issued k a).2 = false →
    Runs i s [low s rd (loaded s k a), (.r15, s.pc + 2)] s.cpsr (s.costOf .data .n (issued k a).2 (issued k a).1 + own s + 1)

/-- The Thumb loads of formats 6 to 11, each with what it loads and its address (46_thumb_load_store.md R452, R455, R456, R458 to R460, R462, R464,
R466, R468). -/
def thumbLoads (s : State) (ro rb rd : LoReg) (off5 : BitVec 5) (off8 : BitVec 8) : List (Instr × LoadKind × Word) :=
  [(.tLdrPc rd off8, .word, ((s.pc + 4) &&& 0xFFFFFFFC) + (off8 ++ 0#2).setWidth 32), (.tLdrReg ro rb rd, .word, s.lo rb + s.lo ro),
    (.tLdrbReg ro rb rd, .byte, s.lo rb + s.lo ro), (.tLdrhReg ro rb rd, .half, s.lo rb + s.lo ro),
    (.tLdsbReg ro rb rd, .sbyte, s.lo rb + s.lo ro), (.tLdshReg ro rb rd, .shalf, s.lo rb + s.lo ro),
    (.tLdrImm off5 rb rd, .word, s.lo rb + (off5 ++ 0#2).setWidth 32), (.tLdrbImm off5 rb rd, .byte, s.lo rb + off5.setWidth 32),
    (.tLdrhImm off5 rb rd, .half, s.lo rb + (off5 ++ 0#1).setWidth 32),
    (.tLdrSp rd off8, .word, s.regs.get (phys s.mode 13) + (off8 ++ 0#2).setWidth 32)]

/-- The Thumb stores of formats 7 to 11, each with what it stores and its address (R453, R454, R457, R461, R463, R465, R467). -/
def thumbStores (s : State) (ro rb rd : LoReg) (off5 : BitVec 5) (off8 : BitVec 8) : List (Instr × StoreKind × Word) :=
  [(.tStrReg ro rb rd, .word, s.lo rb + s.lo ro), (.tStrhReg ro rb rd, .half, s.lo rb + s.lo ro), (.tStrbReg ro rb rd, .byte, s.lo rb + s.lo ro),
    (.tStrImm off5 rb rd, .word, s.lo rb + (off5 ++ 0#2).setWidth 32), (.tStrbImm off5 rb rd, .byte, s.lo rb + off5.setWidth 32),
    (.tStrhImm off5 rb rd, .half, s.lo rb + (off5 ++ 0#1).setWidth 32),
    (.tStrSp rd off8, .word, s.regs.get (phys s.mode 13) + (off8 ++ 0#2).setWidth 32)]

/-- A Thumb store runs (R450, R598). -/
def ThumbStores (i : Instr) (s : State) (k : StoreKind) (a : Word) (rd : LoReg) : Prop :=
  accessFaults s.cfg (storeAt k a).1 (storeAt k a).2 = false →
    ∃ t : State, exec i s = .next t ∧
      Core s t [(.r15, s.pc + 2)] s.cpsr s.spsr.get
        (s.costOf .data .n (storeAt k a).2 (storeAt k a).1 + nextFetch s [(.r15, s.pc + 2)]) ∧
      StoresTo s t (storeAt k a).2 (storeAt k a).1 (s.regs.get (phys s.mode rd.toReg))

end Sys2Proof.Claims

section Statements

open Sys2Proof Sys2Proof.Machine Sys2Proof.Claims

/-! ## The machine -/

/-- After reset the state holds the values of 10_state.md R60, for both boot modes. -/
def Obligations.ResetValues : Prop :=
  ∀ (c : Config) (code data : CostTable) (images : Memory),
    let s := State.resetWith c code data images
    (∀ p : Phys, s.regs.get p = match c.boot, p with
      | .direct, .r15 => 0x08000000
      | .direct, .r13_usr => 0x03007F00
      | .direct, .r13_irq => 0x03007FA0
      | .direct, .r13_svc => 0x03007FE0
      | _, _ => 0) ∧
    s.cpsr = (match c.boot with | .cold => 0x000000D3 | .direct => 0x0000001F) ∧
    (∀ m ∈ [Mode.fiq, .irq, .svc, .abt, .und], s.spsr.get m = some 0) ∧
    s.cycles = 0 ∧ s.sched = 0 ∧ s.ioEvents = [] ∧ s.fault = none

/-- The invariant holds right after reset, whatever the configuration, the cost tables and the images (in canonical form). -/
def Obligations.ResetKeepsInv : Prop :=
  State.reset.Inv ∧ ∀ (c : Config) (code data : CostTable) (images : Memory), images.wf = true → (State.resetWith c code data images).Inv

/-- After configure and reset the memory holds the three images and zeros (20_memory.md R110), in both boot modes: each byte of the boot ROM, of the
cartridge ROM and of the backing store is that of its image, and every other byte of a region is 0. -/
def Obligations.ResetMemory : Prop :=
  ∀ (c : Config) (code data : CostTable) (bios rom sram : List Byte) (fiq : List Bool) (s : State), configure c code data bios rom sram fiq = some s →
    (∀ k, k < bios.length → bios[k]? = some (s.read8 (BitVec.ofNat 32 k))) ∧
    (∀ k, k < rom.length → rom[k]? = some (s.read8 (0x08000000 + BitVec.ofNat 32 k))) ∧
    (∀ k, k < sram.length → sram[k]? = some (s.read8 (0x0E000000 + BitVec.ofNat 32 k))) ∧
    ∀ (a : Word) (r : Region) (l : Nat), transform s.cfg a = .mapped r l → r ≠ .bios → r ≠ .rom → r ≠ .sram → s.read8 a = 0

/-- A step that takes no interrupt runs the instruction that the bytes at the program counter decode to, in the decode table the T bit selects, in the
state with this step's inputs taken (70_reset_and_hazards.md R580; the inputs are logs 5 and 6). -/
def Obligations.StepRunsDecoded : Prop :=
  ∀ (s : State) (i : Instr), s.fault = none → s.taken = none → accessFaults s.cfg s.pc s.fw = false →
    decodeBytes s.thumb (if s.thumb then [s.read8 s.pc, s.read8 (s.pc + 1)]
      else [s.read8 s.pc, s.read8 (s.pc + 1), s.read8 (s.pc + 2), s.read8 (s.pc + 3)]) = .ok i →
    step s = exec i { s with fiqLine := s.fiqLine.tail, draws := s.draws + 1 }

/-- What a step does first (60_exceptions.md R545): a faulted state takes none; the FIQ line with F = 0 comes before the IRQ line with I = 0; the IRQ
line is R540's, from the bytes of IE, IF and IME. For an IO_WINDOW_LAST below 0x04000209 R540 does not say what the line is: that a byte beyond the
window reads 0, so that the line is low, and that nothing faults, is the model's reading (log 20, DEDUCED). The FIQ line is what the host sends, with
configure or with the step (70_reset_and_hazards.md R610; its form is log 6). A step that faults answers the host the state it leaves, marked (R610). -/
def Obligations.StepOrder : Prop :=
  (∀ (s : State) (f : FaultName), s.fault = some f → Halts (step s) f s) ∧
  (∀ (s t : State) (f : FaultName), Halts (step s) f t → markStep s = { t with fault := some f }) ∧
  (∀ s : State, s.taken = some .fiq ↔ s.fiqLine.head? = some true ∧ s.cpsr.getLsbD 6 = false) ∧
  (∀ s : State, s.taken = some .irq ↔
    ¬ (s.fiqLine.head? = some true ∧ s.cpsr.getLsbD 6 = false) ∧ s.cpsr.getLsbD 7 = false ∧
      (s.read8 0x04000208).getLsbD 0 = true ∧
      ∃ k, k < 14 ∧ (s.read16 0x04000200).getLsbD k = true ∧ (s.read16 0x04000202).getLsbD k = true) ∧
  (∀ (s : State) (e : Exc), s.taken = some e → e = .fiq ∨ e = .irq) ∧
  (∀ (s : State) (fiq : Bool) (draw : Nat), (s.withInputs fiq draw).taken = some .fiq ↔ fiq = true ∧ s.cpsr.getLsbD 6 = false) ∧
  (∀ (c : Config) (code data : CostTable) (bios rom sram : List Byte) (fiq : List Bool) (s : State),
    configure c code data bios rom sram fiq = some s → s.fiqLine = fiq)

/-- An interrupt is taken before the fetch: the entry of R530 with the address of the instruction not executed plus 4 as the link, in ARM and in
Thumb state, its cycles those of R597. -/
def Obligations.InterruptEntry : Prop :=
  ∀ s : State, s.fault = none →
    (s.taken = some .fiq → ∃ t : State, step s = .next t ∧
      Enters s t .fiq true 0x0000001C (s.pc + 4) (own s + refillAt s false 0x0000001C) ∧
      t.costCode = s.costCode ∧ t.costData = s.costData ∧ t.fault = none ∧ t.cfg = s.cfg) ∧
    (s.taken = some .irq → ∃ t : State, step s = .next t ∧
      Enters s t .irq false 0x00000018 (s.pc + 4) (own s + refillAt s false 0x00000018) ∧
      t.costCode = s.costCode ∧ t.costData = s.costData ∧ t.fault = none ∧ t.cfg = s.cfg)

/-- SWI enters SoftwareInterrupt from either state, whatever its comment: link pc_cur + 4 (ARM) or pc_cur + 2 (Thumb), vector 8
(44_arm_branch_system.md R380, 47_thumb_branch.md R501). -/
def Obligations.SoftwareInterrupt : Prop :=
  (∀ (s : State) (c : Cond) (comment : BitVec 24), Arm s c → ∃ t : State, exec (.swi c comment) s = .next t ∧
    Enters s t .svc false 0x00000008 (s.pc + 4) (own s + refillAt s false 0x00000008) ∧ RestKept s t) ∧
  (∀ (s : State) (comment : BitVec 8), s.thumb = true → ∃ t : State, exec (.tSwi comment) s = .next t ∧
    Enters s t .svc false 0x00000008 (s.pc + 2) (own s + refillAt s false 0x00000008) ∧ RestKept s t)

/-- An undefined encoding of either table only advances under `UNDEF_POLICY = nop`, and enters Undefined under `trap` (44_arm_branch_system.md R390). -/
def Obligations.UndefinedEncodings : Prop :=
  (∀ (s : State) (c : Cond) (i : Instr), i ∈ armUndefined c → Arm s c →
    (s.cfg.undef = .nop → Runs i s [(.r15, s.pc + 4)] s.cpsr (own s)) ∧
    (s.cfg.undef = .trap → ∃ t : State, exec i s = .next t ∧
      Enters s t .und false 0x00000004 (s.pc + 4) (own s + refillAt s false 0x00000004) ∧ RestKept s t)) ∧
  (∀ (s : State) (i : Instr), i ∈ thumbUndefined → s.thumb = true →
    (s.cfg.undef = .nop → Runs i s [(.r15, s.pc + 2)] s.cpsr (own s)) ∧
    (s.cfg.undef = .trap → ∃ t : State, exec i s = .next t ∧
      Enters s t .und false 0x00000004 (s.pc + 2) (own s + refillAt s false 0x00000004) ∧ RestKept s t))

/-! ## Memory -/

/-- The region and local index of every address (20_memory.md R87, R88, R97, R100, R101). -/
def Obligations.RegionTable : Prop :=
  ∀ (c : Config) (a : Word), c.wf = true →
    let n := a.toNat
    (n ≤ 0x3FFF → transform c a = .mapped .bios n) ∧
    (0x4000 ≤ n → n < 0x2000000 → transform c a = .unmapped) ∧
    (0x2000000 ≤ n → n < 0x3000000 → transform c a = .mapped .ewram (n % 0x40000)) ∧
    (0x3000000 ≤ n → n < 0x4000000 → transform c a = .mapped .iwram (n % 0x8000)) ∧
    (0x4000000 ≤ n → n ≤ c.ioWindowLast → transform c a = .mapped .io (n - 0x4000000)) ∧
    (c.ioWindowLast < n → n < 0x5000000 → transform c a = .outOfWindow) ∧
    (0x5000000 ≤ n → n < 0x6000000 → transform c a = .mapped .pal (n % 0x400)) ∧
    (0x6000000 ≤ n → n < 0x7000000 → n % 0x20000 < 0x18000 → transform c a = .mapped .vram (n % 0x20000)) ∧
    (0x6000000 ≤ n → n < 0x7000000 → 0x18000 ≤ n % 0x20000 →
      transform c a = .mapped .vram (n % 0x20000 - (match c.vramTail with | .base00000 => 0x18000 | .base10000 => 0x8000))) ∧
    (0x7000000 ≤ n → n < 0x8000000 → transform c a = .mapped .oam (n % 0x400)) ∧
    (0x8000000 ≤ n → n < 0xE000000 → n % 0x2000000 < c.romSize → transform c a = .mapped .rom (n % 0x2000000)) ∧
    (0x8000000 ≤ n → n < 0xE000000 → c.romSize ≤ n % 0x2000000 → transform c a = .unmapped) ∧
    (0xE000000 ≤ n → n < 0x10000000 → n % 0x10000 < c.sramSize → transform c a = .mapped .sram (n % 0x10000)) ∧
    (0xE000000 ≤ n → n < 0x10000000 → c.sramSize ≤ n % 0x10000 → transform c a = .unmapped) ∧
    (0x10000000 ≤ n → transform c a = .unmapped)

/-- A byte reads as it was written, through every mirror of its place; BIOS and ROM bytes, IF and addresses of no region as R88, R89 and R98 say; a
write leaves every other place as it was. -/
def Obligations.ByteWrite : Prop :=
  ∀ (s : State) (a b : Word) (x : Byte), s.mem.wf = true →
    readByte s.cfg (writeByte s.cfg s.mem a x) b = if transform s.cfg b = transform s.cfg a then written s a x else s.read8 b

/-- The I/O write hook (20_memory.md R96): a write of any width whose address lies in the window appends one event, of the width, the address and the
value, whose snapshot holds every byte of the window as the write left it; any other write appends none (the snapshot's form is log 10, the value's log 17). -/
def Obligations.IoHook : Prop :=
  ∀ (s t : State) (w : Width) (a v : Word), s.mem.wf = true → s.cfg.wf = true →
    t = (match w with | .w8 => s.write8 a (v.setWidth 8) | .w16 => s.write16 a (v.setWidth 16) | .w32 => s.write32 a v) →
    (0x04000000 ≤ a.toNat ∧ a.toNat ≤ s.cfg.ioWindowLast →
      ∃ e : IoEvent, t.ioEvents = s.ioEvents ++ [e] ∧ e.width = w ∧ e.addr = a ∧ e.value = v &&& BitVec.ofNat 32 (2 ^ (8 * w.bytes) - 1) ∧
        ∀ b : Word, 0x04000000 ≤ b.toNat → b.toNat ≤ s.cfg.ioWindowLast → Memory.get e.snapshot b.toNat = t.read8 b) ∧
    (¬ (0x04000000 ≤ a.toNat ∧ a.toNat ≤ s.cfg.ioWindowLast) → t.ioEvents = s.ioEvents)

/-- Under `IO_OOW_POLICY = fault` a fetch, and every load and store of both instruction sets, of which some byte lies above the I/O window stop the
model (20_memory.md R95) and leave the state at that point (70_reset_and_hazards.md R580): for a fetch and a single access the state before it, for a
block transfer the words before done, in the order of its rule, and the write-back where that comes before them. That the access that faults is not
charged, and the fetch of its instruction neither, is the model's reading (log 7); what is an access in a block is log 19. The model's choices too
(DEDUCED): the byte checked for a signed halfword at an odd address (log 14), the words POP and LDMIA have loaded from an unaligned base, which are not
rotated (log 12), and the word a user-bank STM has stored for a base it writes back (log 23). That the LDM return is no UNPREDICTABLE case in user mode,
so that it stops here with this fault also under `UNPREDICTABLE_POLICY = fault`, is the model's reading of R551 against R346 (log 11). -/
def Obligations.OutOfWindowFaults : Prop :=
  (∀ s : State, s.fault = none → s.taken = none → s.cfg.oow = .fault → ReachesAbove s (s.pc, if s.thumb then .w16 else .w32) →
    Halts (step s) .ioOutOfWindow { s with fiqLine := s.fiqLine.tail, draws := s.draws + 1 }) ∧
  (∀ (s : State) (byte : Bool) (c : Cond) (m : Idx) (rn rd : Reg) (x : BitVec 12 ⊕ ImmShift), Arm s c → s.cfg.oow = .fault →
    ReachesAbove s (storeAt (if byte then .byte else .word) (transferAddress m (s.reg rn) (wordOffset s x))) →
    (Permits s (wordRegular true byte m rn rd x) → Halts (exec (loadWordOrByte byte c m rn rd x) s) .ioOutOfWindow s) ∧
    (Permits s (wordRegular false byte m rn rd x) → Halts (exec (storeWordOrByte byte c m rn rd x) s) .ioOutOfWindow s)) ∧
  (∀ (s : State) (h : HalfLoad) (c : Cond) (m : Idx) (rn rd : Reg) (x : BitVec 8 ⊕ Reg), Arm s c → s.cfg.oow = .fault →
    let a := transferAddress m (s.reg rn) (halfOffset s x)
    (Permits s (halfRegular true m rn rd x) → ReachesAbove s (issued h.kind a) → Halts (exec (h.instr c m rn rd x) s) .ioOutOfWindow s) ∧
    (Permits s (halfRegular false m rn rd x) → ReachesAbove s (storeAt .half a) → Halts (exec (storeHalf c m rn rd x) s) .ioOutOfWindow s)) ∧
  (∀ (s : State) (byte : Bool) (c : Cond) (rn rd rm : Reg), Arm s c → s.cfg.oow = .fault →
    Permits s (rn ≠ 15 ∧ rd ≠ 15 ∧ rm ≠ 15 ∧ rn ≠ rd ∧ rn ≠ rm) → ReachesAbove s (storeAt (if byte then .byte else .word) (s.reg rn)) →
    Halts (exec (if byte then .swpb c rn rd rm else .swp c rn rd rm) s) .ioOutOfWindow s) ∧
  (∀ (s : State) (c : Cond) (m : Idx) (rn : Reg) (list : BitVec 16), Arm s c → s.mem.wf = true → s.cfg.oow = .fault →
    let rs := registers list
    let all := wordsFrom (blockFrom m (s.reg rn) rs.length) rs.length
    let as := reachedWords s all
    let wb := decide (m.w = true ∧ rn ≠ 15)
    let back := blockEnd m (s.reg rn) rs.length
    let loads := fun user => blockLoads s user rs as ++ (if wb then [dest s rn back] else [])
    let stores := fun user => as.zip (rs.map (blockValue s user rs wb rn back))
    Permits s (rn ≠ 15 ∧ list ≠ 0) → BlockReachesAbove s all →
    (∀ i ∈ [Instr.ldm c m rn list, .ldmRet c m rn list], HaltsAfter i s .ioOutOfWindow (loads false) (blockCost s as)) ∧
    HaltsAfterStores (.stm c m rn list) s [] (stores false) (blockCost s as) ∧
    (Permits s (s.mode ≠ .usr ∧ m.w = false) →
      HaltsAfter (.ldmUser c m rn list) s .ioOutOfWindow (loads true) (blockCost s as) ∧
      HaltsAfterStores (.stmUser c m rn list) s [] (stores true) (blockCost s as))) ∧
  (∀ (s : State) (ro rb rd : LoReg) (off5 : BitVec 5) (off8 : BitVec 8), s.thumb = true → s.cfg.oow = .fault →
    (∀ x ∈ thumbLoads s ro rb rd off5 off8, ReachesAbove s (issued x.2.1 x.2.2) → Halts (exec x.1 s) .ioOutOfWindow s) ∧
    (∀ x ∈ thumbStores s ro rb rd off5 off8, ReachesAbove s (storeAt x.2.1 x.2.2) → Halts (exec x.1 s) .ioOutOfWindow s)) ∧
  (∀ (s : State) (r : Bool) (rb : LoReg) (list : BitVec 8), s.thumb = true → s.mem.wf = true → s.cfg.oow = .fault →
    let rs := registers (list.setWidth 16)
    let sp := s.regs.get (phys s.mode 13)
    (Permits s (list ≠ 0 ∨ r = true) →
      (let pushed := rs ++ if r then [14] else []
       let a := sp - BitVec.ofNat 32 (4 * pushed.length)
       let as := reachedWords s (wordsFrom a pushed.length)
       BlockReachesAbove s (wordsFrom a pushed.length) →
        HaltsAfterStores (.tPush r list) s [(phys s.mode 13, a)] (as.zip (pushed.map fun i => s.regs.get (phys s.mode i))) (blockCost s as)) ∧
      (let popped := rs ++ if r then [15] else []
       let as := reachedWords s (wordsFrom sp popped.length)
       BlockReachesAbove s (wordsFrom sp popped.length) →
        HaltsAfter (.tPop r list) s .ioOutOfWindow (blockLoads s false popped as) (blockCost s as))) ∧
    (Permits s (list ≠ 0) →
      let as := reachedWords s (wordsFrom (s.lo rb) rs.length)
      BlockReachesAbove s (wordsFrom (s.lo rb) rs.length) →
      HaltsAfterStores (.tStmia rb list) s []
        (as.zip (rs.map (blockValue s false rs true rb.toReg (s.lo rb + BitVec.ofNat 32 (4 * rs.length))))) (blockCost s as) ∧
      HaltsAfter (.tLdmia rb list) s .ioOutOfWindow (blockLoads s false rs as) (blockCost s as)))

/-! ## The shifter, the adder and the conditions -/

/-- The immediate forms of the shifter, bit by bit (40_shifter_alu_cond.md R201, R203, R205, R207). -/
def Obligations.ShiftByImmediate : Prop :=
  ∀ (v : Word) (n : BitVec 5) (cin : Bool),
    (n = 0 → shiftImm .lsl v n cin = (v, cin) ∧ shiftImm .lsr v n cin = (0, v.getLsbD 31) ∧
      shiftImm .asr v n cin = (if v.getLsbD 31 then 0xFFFFFFFF else 0, v.getLsbD 31) ∧
      ((shiftImm .ror v n cin).2 = v.getLsbD 0 ∧
        ∀ j, j < 32 → (shiftImm .ror v n cin).1.getLsbD j = if j = 31 then cin else v.getLsbD (j + 1))) ∧
    (n ≠ 0 →
      ((shiftImm .lsl v n cin).2 = v.getLsbD (32 - n.toNat) ∧
        ∀ j, j < 32 → (shiftImm .lsl v n cin).1.getLsbD j = if j < n.toNat then false else v.getLsbD (j - n.toNat)) ∧
      ((shiftImm .lsr v n cin).2 = v.getLsbD (n.toNat - 1) ∧ (shiftImm .lsr v n cin).1.toNat = v.toNat / 2 ^ n.toNat) ∧
      ((shiftImm .asr v n cin).2 = v.getLsbD (n.toNat - 1) ∧ (shiftImm .asr v n cin).1.toInt = v.toInt / 2 ^ n.toNat) ∧
      ((shiftImm .ror v n cin).2 = v.getLsbD (n.toNat - 1) ∧
        ∀ j, j < 32 → (shiftImm .ror v n cin).1.getLsbD j = v.getLsbD ((j + n.toNat) % 32)))

/-- The register forms of the shifter (R202, R204, R208): amount 0, 1 to 31, 32 and above. What ASR does with the amount 0 is
the spec's own inference, which R206 marks as derived (D25). -/
def Obligations.ShiftByRegister : Prop :=
  ∀ (v : Word) (a : Byte) (cin : Bool),
    (a = 0 → ∀ ty : ShiftType, shiftReg ty v a cin = (v, cin)) ∧
    (0 < a.toNat → a.toNat < 32 → ∀ ty : ShiftType, shiftReg ty v a cin = shiftImm ty v (BitVec.ofNat 5 a.toNat) cin) ∧
    (a.toNat = 32 → shiftReg .lsl v a cin = (0, v.getLsbD 0) ∧ shiftReg .lsr v a cin = (0, v.getLsbD 31)) ∧
    (32 < a.toNat → shiftReg .lsl v a cin = (0, false) ∧ shiftReg .lsr v a cin = (0, false)) ∧
    (32 ≤ a.toNat → shiftReg .asr v a cin = (if v.getLsbD 31 then 0xFFFFFFFF else 0, v.getLsbD 31)) ∧
    (32 ≤ a.toNat → a.toNat % 32 = 0 → shiftReg .ror v a cin = (v, v.getLsbD 31)) ∧
    (32 ≤ a.toNat → a.toNat % 32 ≠ 0 → shiftReg .ror v a cin = shiftImm .ror v (BitVec.ofNat 5 (a.toNat % 32)) cin)

/-- The rotated immediate (R209, R210): the byte rotated right by twice the field; the carry is bit 31, or the old carry when the field is 0. -/
def Obligations.RotatedImmediate : Prop :=
  ∀ (o : RotImm) (cin : Bool),
    (rotateImm o cin).1 = (o.imm8.setWidth 32).rotateRight (2 * o.rot.toNat) ∧
    (rotateImm o cin).2 = (if o.rot = 0 then cin else decide ((rotateImm o cin).1.toInt < 0))

/-- The adder (R215): result, carry and overflow, the overflow by the signs of the operands and the result; and of a subtraction as the addition of
the complement (the spec's own inference in R216). -/
def Obligations.Adder : Prop :=
  ∀ (a b : Word) (cin : Bool),
    (addWithCarry a b cin).result = a + b + one cin ∧
    ((addWithCarry a b cin).c = true ↔ 4294967296 ≤ a.toNat + b.toNat + cin.toNat) ∧
    ((addWithCarry a b cin).v = true ↔
      a.getLsbD 31 = b.getLsbD 31 ∧ (addWithCarry a b cin).result.getLsbD 31 ≠ a.getLsbD 31) ∧
    (addWithCarry a (~~~b) cin).result = a - b - one (!cin) ∧
    ((addWithCarry a (~~~b) cin).c = true ↔ b.toNat + 1 - cin.toNat ≤ a.toNat) ∧
    (addWithCarry a (~~~b) cin).v = overflows (a.toInt - b.toInt - (!cin).toNat)

/-- The sixteen conditions (R230). -/
def Obligations.Conditions : Prop :=
  ∀ n z c v : Bool,
    conditionHolds .eq n z c v = z ∧ conditionHolds .ne n z c v = !z ∧ conditionHolds .cs n z c v = c ∧ conditionHolds .cc n z c v = !c ∧
    conditionHolds .mi n z c v = n ∧ conditionHolds .pl n z c v = !n ∧ conditionHolds .vs n z c v = v ∧ conditionHolds .vc n z c v = !v ∧
    (conditionHolds .hi n z c v = true ↔ c = true ∧ z = false) ∧ (conditionHolds .ls n z c v = true ↔ c = false ∨ z = true) ∧
    (conditionHolds .ge n z c v = true ↔ n = v) ∧ (conditionHolds .lt n z c v = true ↔ n ≠ v) ∧
    (conditionHolds .gt n z c v = true ↔ z = false ∧ n = v) ∧ (conditionHolds .le n z c v = true ↔ z = true ∨ n ≠ v) ∧
    conditionHolds .al n z c v = true ∧ conditionHolds .nv n z c v = false

/-- The bank map and the reads of a register (10_state.md R31, R32, R36, R37): two modes share the register of a number exactly as the table says, two
numbers never share one, and register 15 reads ahead of the instruction. -/
def Obligations.RegisterReads : Prop :=
  (∀ (m m' : Mode) (i : Reg), phys m i = phys m' i ↔
    i.val < 8 ∨ i.val = 15 ∨ (i.val < 13 ∧ (m = .fiq ↔ m' = .fiq)) ∨ m = m' ∨ (m ∈ [Mode.usr, Mode.sys] ∧ m' ∈ [Mode.usr, Mode.sys])) ∧
  (∀ (m m' : Mode) (i j : Reg), phys m i = phys m' j → i = j) ∧
  (∀ (s : State) (i : Reg), i ≠ 15 → s.reg i = s.regs.get (phys s.mode i) ∧ s.regLate i = s.reg i) ∧
  (∀ s : State, s.thumb = false → s.reg 15 = s.regs.get .r15 + 8) ∧
  (∀ s : State, s.thumb = true → s.reg 15 = s.regs.get .r15 + 4) ∧
  (∀ s : State, s.cfg.pcStoreRead = .plus8 → s.regLate 15 = s.regs.get .r15 + 8) ∧
  (∀ s : State, s.cfg.pcStoreRead = .plus12 → s.regLate 15 = s.regs.get .r15 + 12)

/-! ## ARM data processing and status transfers -/

/-- An ARM instruction whose condition fails only advances, whatever it is (70_reset_and_hazards.md R582). -/
def Obligations.SkippedOnlyAdvances : Prop :=
  ∀ (s : State) (i : Instr), i.isArm = true → s.thumb = false → s.passes (conditionOf i) = false → Runs i s [(.r15, s.pc + 4)] s.cpsr (own s)

/-- The twelve operations that write a register, with an immediate or a register shifted by an immediate (41_arm_data_processing.md R252 to R256,
R260 to R267, R272 to R275): the result, the flags with S = 1, register 15 a branch with S = 0. -/
def Obligations.DataProcessing : Prop :=
  ∀ (s : State) (op : DpOp) (c : Cond) (f : Bool) (rn rd : Reg) (x : Operand2), Arm s c → compares op = false → x.byRegister = false →
    (rd = 15 → f = false) →
    let a := x.first s rn
    let r := dpValue op a (x.value s).1 s.flagC
    Runs (dp op c f rn rd x) s [dest s rd r, (.r15, s.pc + 4)] (if f then dpFlags s op a (x.value s) else s.cpsr)
      (own s + (if rd = 15 then refillAt s false (r &&& 0xFFFFFFFC) else 0))

/-- The same operations with a register shifted by a register (R251, R252): one internal cycle more, and register 15 as a destination is the case
`dp_regshift_rd15`. -/
def Obligations.DataProcessingByRegister : Prop :=
  ∀ (s : State) (op : DpOp) (c : Cond) (f : Bool) (rn rd : Reg) (x : Operand2), Arm s c → compares op = false → x.byRegister = true →
    (rd = 15 → f = false) → Permits s (rd ≠ 15) →
    let a := x.first s rn
    let r := dpValue op a (x.value s).1 s.flagC
    Runs (dp op c f rn rd x) s [dest s rd r, (.r15, s.pc + 4)] (if f then dpFlags s op a (x.value s) else s.cpsr)
      (own s + 1 + (if rd = 15 then refillAt s false (r &&& 0xFFFFFFFC) else 0))

/-- TST, TEQ, CMP and CMN write the flags and nothing else (R255, R268 to R271). -/
def Obligations.Compares : Prop :=
  ∀ (s : State) (op : DpOp) (c : Cond) (f : Bool) (rn rd : Reg) (x : Operand2), Arm s c → compares op = true →
    Runs (dp op c f rn rd x) s [(.r15, s.pc + 4)] (dpFlags s op (x.first s rn) (x.value s)) (own s + x.cycles)

/-- The exception return by data processing (R259): with S = 1 and Rd = 15, CPSR is the SPSR of the current mode and the result is branched to. The
target is that of R259 under `stepwise` and that of R501 and R535 under `restored`; that there are the two, and
that the machine after reset has the second, is the model's (log 4). -/
def Obligations.DataProcessingReturn : Prop :=
  ∀ (s : State) (op : DpOp) (c : Cond) (rn : Reg) (x : Operand2) (v : Word), Arm s c → compares op = false →
    (x.byRegister = true → s.cfg.unpredictable = .arm7tdmi) →
    s.spsr.get s.mode = some v → (Mode.ofBits (v.extractLsb' 0 5)).isSome = true →
    let target := returnAddress s.cfg.dpReturn v (dpValue op (x.first s rn) (x.value s).1 s.flagC)
    Runs (dp op c true rn 15 x) s [(.r15, target)] v (own s + x.cycles + refillAt s (v.getLsbD 5) target)

/-- Where there is no SPSR, in user and system mode, a read, a write and every form of a return stop with `ModeError`; so does a return whose SPSR names
no mode, and MSR of a CPSR that names none (10_state.md R42, R47, 43_arm_load_store.md R357, 60_exceptions.md R551). The state is left as it was, but for
the LDM, which stops "after the last load": the loads, the write-back before them and their charges are done. That the LDM return in user mode stops so
whatever the policy, where R346 has S = 1 there act as S = 0, is the model's reading of R357 and R551 (log 11); what has been charged is log 7. -/
def Obligations.ModeErrors : Prop :=
  ∀ (s : State) (c : Cond), Arm s c → s.modeLegal = true →
    (s.mode = .usr ∨ s.mode = .sys →
      (∀ rd : Reg, Permits s (rd ≠ 15) → Halts (exec (.mrs c true rd) s) .modeError s) ∧
      (∀ (k : BitVec 4) (x : Reg ⊕ RotImm), Permits s (x ≠ .inl 15) → Halts (exec (msr c true k x) s) .modeError s)) ∧
    (s.mode = .usr ∨ s.mode = .sys ∨ (∃ v : Word, s.spsr.get s.mode = some v ∧ (Mode.ofBits (v.extractLsb' 0 5)).isSome = false) →
      (∀ (op : DpOp) (rn : Reg) (x : Operand2), compares op = false → (x.byRegister = true → s.cfg.unpredictable = .arm7tdmi) →
        Halts (exec (dp op c true rn 15 x) s) .modeError s) ∧
      (∀ (m : Idx) (rn : Reg) (list : BitVec 16), list.getLsbD 15 = true → Permits s (rn ≠ 15) →
        let rs := registers list
        let as := wordsFrom (blockFrom m (s.reg rn) rs.length) rs.length
        Accessible s as →
        HaltsAfter (.ldmRet c m rn list) s .modeError
          (blockLoads s false (rs.filter fun i => decide (i ≠ 15)) as ++
            (if m.w = true ∧ rn ≠ 15 then [dest s rn (blockEnd m (s.reg rn) rs.length)] else [])) (blockCost s as))) ∧
    (∀ (k : BitVec 4) (x : Reg ⊕ RotImm),
      let new := msrWord s.cpsr (msrValue s x) k (decide (s.mode ≠ .usr))
      (Mode.ofBits (new.extractLsb' 0 5)).isSome = false → Permits s (x ≠ .inl 15 ∧ new.getLsbD 5 = false) →
      Halts (exec (msr c false k x) s) .modeError s)

/-- MRS (R280): CPSR, or the SPSR of the current mode. For Rd = 15 the branch without a refill's cycles is the model's (log 13). -/
def Obligations.ReadStatus : Prop :=
  ∀ (s : State) (c : Cond) (rd : Reg), Arm s c → Permits s (rd ≠ 15) →
    Runs (.mrs c false rd) s [dest s rd s.cpsr, (.r15, s.pc + 4)] s.cpsr (own s) ∧
    (∀ v : Word, s.spsr.get s.mode = some v → Runs (.mrs c true rd) s [dest s rd v, (.r15, s.pc + 4)] s.cpsr (own s))

/-- MSR to CPSR (R283): user mode writes the flag byte only; a change of T is the case `msr_t_change`. -/
def Obligations.WriteStatus : Prop :=
  ∀ (s : State) (c : Cond) (mask : BitVec 4) (x : Reg ⊕ RotImm), Arm s c →
    let new := msrWord s.cpsr (msrValue s x) mask (decide (s.mode ≠ .usr))
    (Mode.ofBits (new.extractLsb' 0 5)).isSome = true → Permits s (x ≠ .inl 15 ∧ new.getLsbD 5 = false) →
    Runs (msr c false mask x) s [(.r15, s.pc + 4)] new (own s)

/-- MSR to the SPSR of the current mode (R284): no restriction and no check of the value; CPSR and the other SPSRs are as before. -/
def Obligations.WriteSavedStatus : Prop :=
  ∀ (s : State) (c : Cond) (mask : BitVec 4) (x : Reg ⊕ RotImm) (old : Word), Arm s c → s.spsr.get s.mode = some old → Permits s (x ≠ .inl 15) →
    ∃ t : State, exec (msr c true mask x) s = .next t ∧
      Core s t [(.r15, s.pc + 4)] s.cpsr
        (fun m => if m = s.mode then some (msrWord old (msrValue s x) mask true) else s.spsr.get m) (own s) ∧
      MemoryKept s t

/-! ## Multiplies -/

/-- MUL, MLA and the Thumb MUL (42_arm_multiply.md R302, R303, R309, 45_thumb_alu.md R425): the low 32 bits; with S = 1 N and Z of the result, V kept,
and C the step's free value, of which nothing is said (log 5). No refill's cycles for Rd = 15: log 13. -/
def Obligations.Multiply : Prop :=
  ∀ (s : State) (c : Cond) (f : Bool) (rd rn rs rm : Reg),
    (Arm s c → Permits s (rd ≠ 15 ∧ rm ≠ 15 ∧ rs ≠ 15 ∧ rd ≠ rm) → ∃ free : Bool,
      let r := BitVec.ofNat 32 ((s.reg rm).toNat * (s.reg rs).toNat)
      Runs (.mul c f rd rs rm) s [dest s rd r, (.r15, s.pc + 4)] (if f then flagsOf s.cpsr r free s.flagV else s.cpsr)
        (own s + signedCycles (s.reg rs))) ∧
    (Arm s c → Permits s (rd ≠ 15 ∧ rm ≠ 15 ∧ rs ≠ 15 ∧ rn ≠ 15 ∧ rd ≠ rm) → ∃ free : Bool,
      let r := BitVec.ofNat 32 ((s.reg rm).toNat * (s.reg rs).toNat + (s.reg rn).toNat)
      Runs (.mla c f rd rn rs rm) s [dest s rd r, (.r15, s.pc + 4)] (if f then flagsOf s.cpsr r free s.flagV else s.cpsr)
        (own s + (signedCycles (s.reg rs) + 1))) ∧
    (∀ tRs tRd : LoReg, s.thumb = true → ∃ free : Bool,
      let r := BitVec.ofNat 32 ((s.lo tRd).toNat * (s.lo tRs).toNat)
      LowWrites (.tMul tRs tRd) s tRd r free s.flagV (signedCycles (s.lo tRd)))

/-- The long multiplies (R304 to R307, R309): the exact 64-bit product and sum in two registers, the high half written last; with S = 1 N and Z of all
64 bits, and C and V the step's free values (log 5). No refill's cycles for register 15: log 13. -/
def Obligations.MultiplyLong : Prop :=
  ∀ (s : State) (k : LongMul) (c : Cond) (f : Bool) (rdHi rdLo rs rm : Reg), Arm s c →
    Permits s (rdHi ≠ 15 ∧ rdLo ≠ 15 ∧ rs ≠ 15 ∧ rm ≠ 15 ∧ rdHi ≠ rdLo ∧ rdHi ≠ rm ∧ rdLo ≠ rm) → ∃ freeC freeV : Bool,
    let p := k.value (s.reg rm) (s.reg rs) (s.reg rdHi) (s.reg rdLo)
    Runs (k.instr c f rdHi rdLo rs rm) s [dest s rdHi (p.extractLsb' 32 32), dest s rdLo (p.extractLsb' 0 32), (.r15, s.pc + 4)]
      (if f then flagged s.cpsr (decide (p.toInt < 0)) (decide (p = 0)) freeC freeV else s.cpsr) (own s + k.cycles (s.reg rs))

/-! ## ARM transfers -/

/-- LDR, LDRB and their T forms (43_arm_load_store.md R320 to R323, R327, R328): the value, the write-back before it, a branch for Rd = 15. No refill's
cycles for a write-back to register 15: log 13. -/
def Obligations.Loads : Prop :=
  ∀ (s : State) (byte : Bool) (c : Cond) (m : Idx) (rn rd : Reg) (x : BitVec 12 ⊕ ImmShift), Arm s c →
    Permits s (wordRegular true byte m rn rd x) →
    let k : LoadKind := if byte then .byte else .word
    let e := issued k (transferAddress m (s.reg rn) (wordOffset s x))
    accessFaults s.cfg e.1 e.2 = false → LoadRuns (loadWordOrByte byte c m rn rd x) s k m rn rd (wordOffset s x)

/-- LDRH, LDRSB and LDRSH (R335 to R337, R339). The width charged for a signed halfword at an odd address is the model's (log 14), and so is that a
write-back to register 15 charges no refill's cycles (log 13). -/
def Obligations.HalfwordLoads : Prop :=
  ∀ (s : State) (h : HalfLoad) (c : Cond) (m : Idx) (rn rd : Reg) (x : BitVec 8 ⊕ Reg), Arm s c → Permits s (halfRegular true m rn rd x) →
    let e := issued h.kind (transferAddress m (s.reg rn) (halfOffset s x))
    accessFaults s.cfg e.1 e.2 = false → LoadRuns (h.instr c m rn rd x) s h.kind m rn rd (halfOffset s x)

/-- STR, STRB, their T forms and STRH (R325, R326, R329, R330, R338): the bytes stored, the write-back after them, every other byte as before. That a
write-back to register 15 charges no refill's cycles is the model's (log 13). -/
def Obligations.Stores : Prop :=
  (∀ (s : State) (byte : Bool) (c : Cond) (m : Idx) (rn rd : Reg) (x : BitVec 12 ⊕ ImmShift), Arm s c → s.mem.wf = true →
    Permits s (wordRegular false byte m rn rd x) →
    let k : StoreKind := if byte then .byte else .word
    let e := storeAt k (transferAddress m (s.reg rn) (wordOffset s x))
    accessFaults s.cfg e.1 e.2 = false → StoreRuns (storeWordOrByte byte c m rn rd x) s k m rn rd (wordOffset s x)) ∧
  (∀ (s : State) (c : Cond) (m : Idx) (rn rd : Reg) (x : BitVec 8 ⊕ Reg), Arm s c → s.mem.wf = true → Permits s (halfRegular false m rn rd x) →
    let e := storeAt .half (transferAddress m (s.reg rn) (halfOffset s x))
    accessFaults s.cfg e.1 e.2 = false → StoreRuns (storeHalf c m rn rd x) s .half m rn rd (halfOffset s x))

/-- SWP and SWPB (R360, R361): the old value loaded and the new one stored in one step. No refill's cycles for Rd = 15: log 13. -/
def Obligations.Swaps : Prop :=
  ∀ (s : State) (byte : Bool) (c : Cond) (rn rd rm : Reg), Arm s c → s.mem.wf = true →
    Permits s (rn ≠ 15 ∧ rd ≠ 15 ∧ rm ≠ 15 ∧ rn ≠ rd ∧ rn ≠ rm) →
    let k : StoreKind := if byte then .byte else .word
    let e := storeAt k (s.reg rn)
    accessFaults s.cfg e.1 e.2 = false →
    ∃ t : State, exec (if byte then .swpb c rn rd rm else .swp c rn rd rm) s = .next t ∧
      Core s t [dest s rd (loaded s (if byte then .byte else .word) (s.reg rn)), (.r15, s.pc + 4)] s.cpsr s.spsr.get
        (s.costOf .data .n e.2 e.1 + s.costOf .data .n e.2 e.1 + own s + 1) ∧
      StoresTo s t e.2 e.1 (s.reg rm)

/-- LDM and the user-bank LDM (R345 to R349, R356): each register of the list its word, the base written back before them, a branch for register 15. -/
def Obligations.LoadMultiple : Prop :=
  ∀ (s : State) (user : Bool) (c : Cond) (m : Idx) (rn : Reg) (list : BitVec 16), Arm s c → (user = true → list.getLsbD 15 = false) →
    Permits s (rn ≠ 15 ∧ list ≠ 0 ∧ (user = true → s.mode ≠ .usr ∧ m.w = false)) →
    let rs := registers list
    let as := wordsFrom (blockFrom m (s.reg rn) rs.length) rs.length
    let w := blockLoads s user rs as ++ (if m.w = true ∧ rn ≠ 15 then [dest s rn (blockEnd m (s.reg rn) rs.length)] else []) ++ [(.r15, s.pc + 4)]
    Accessible s as →
    Runs (if user then .ldmUser c m rn list else .ldm c m rn list) s w s.cpsr
      (blockCost s as + own s + 1 + (if list.getLsbD 15 then refillAt s false (valueIn w s.pc .r15) else 0))

/-- STM and the user-bank STM (R345, R346, R350 to R352, R356): the words stored, then the write-back, then the fetch. What the user-bank form stores
for a base it writes back is log 23. -/
def Obligations.StoreMultiple : Prop :=
  ∀ (s : State) (user : Bool) (c : Cond) (m : Idx) (rn : Reg) (list : BitVec 16), Arm s c → s.mem.wf = true →
    Permits s (rn ≠ 15 ∧ list ≠ 0 ∧ (user = true → s.mode ≠ .usr ∧ m.w = false)) →
    let rs := registers list
    let as := wordsFrom (blockFrom m (s.reg rn) rs.length) rs.length
    let wb := decide (m.w = true ∧ rn ≠ 15)
    let back := blockEnd m (s.reg rn) rs.length
    let w := (if wb then [dest s rn back] else []) ++ [(.r15, s.pc + 4)]
    Accessible s as →
    ∃ t : State, exec (if user then .stmUser c m rn list else .stm c m rn list) s = .next t ∧
      Core s t w s.cpsr s.spsr.get (blockCost s as + nextFetch s w) ∧
      StoresBlock s t (as.zip (rs.map (blockValue s user rs wb rn back)))

/-- The exception-return LDM (R357): the other registers load through the current bank, then CPSR is the SPSR of the current mode and the last word is
branched to, aligned as R357 says under `stepwise`, which the machine after reset has. The other value, for the restored T bit alone, is the model's
(log 4). -/
def Obligations.LoadMultipleReturn : Prop :=
  ∀ (s : State) (c : Cond) (m : Idx) (rn : Reg) (list : BitVec 16) (v : Word), Arm s c → list.getLsbD 15 = true →
    s.spsr.get s.mode = some v → (Mode.ofBits (v.extractLsb' 0 5)).isSome = true → Permits s (rn ≠ 15) →
    let rs := registers list
    let as := wordsFrom (blockFrom m (s.reg rn) rs.length) rs.length
    let target := returnAddress s.cfg.ldmReturn v (s.read32 (as.getLastD 0))
    Accessible s as →
    Runs (.ldmRet c m rn list) s
      ([(.r15, target)] ++ blockLoads s false rs as ++ (if m.w = true ∧ rn ≠ 15 then [dest s rn (blockEnd m (s.reg rn) rs.length)] else [])) v
      (blockCost s as + own s + 1 + refillAt s (v.getLsbD 5) target)

/-! ## ARM branches -/

/-- B and BL (44_arm_branch_system.md R370, R371): the target from the signed 24-bit word offset; BL writes the link of the current mode. -/
def Obligations.Branches : Prop :=
  ∀ (s : State) (c : Cond) (off : BitVec 24), Arm s c →
    let target := s.pc + 8 + (off ++ 0#2).signExtend 32
    Runs (.b c off) s [(.r15, target)] s.cpsr (own s + refillAt s false target) ∧
    Runs (.bl c off) s [(.r15, target), (phys s.mode 14, s.pc + 4)] s.cpsr (own s + refillAt s false target)

/-- BX in both states (R376, 45_thumb_alu.md R432): bit 0 of the register selects the state, and the target is aligned for it. -/
def Obligations.BranchExchange : Prop :=
  ∀ (s : State) (c : Cond) (rm : Reg) (h1 : Bool),
    let t := s.reg rm
    let target := t &&& (if t.getLsbD 0 then 0xFFFFFFFE#32 else 0xFFFFFFFC#32)
    (Arm s c → Permits s (rm ≠ 15 ∧ (t.getLsbD 0 = false → t.getLsbD 1 = false)) →
      Runs (.bx c rm) s [(.r15, target)] (withT s.cpsr (t.getLsbD 0)) (own s + refillAt s (t.getLsbD 0) target)) ∧
    (s.thumb = true → Permits s (h1 = false ∧ (t.getLsbD 0 = false → t.getLsbD 1 = false)) →
      Runs (.tBx h1 rm) s [(.r15, target)] (withT s.cpsr (t.getLsbD 0)) (own s + refillAt s (t.getLsbD 0) target))

/-! ## Thumb -/

/-- The Thumb additions, subtractions and compares of formats 2, 3 and 4 (45_thumb_alu.md R404 to R407, R409 to R411, R417, R418, R421 to R423). -/
def Obligations.ThumbArithmetic : Prop :=
  ∀ (s : State) (rn rs rd : LoReg) (off3 : BitVec 3) (off8 : BitVec 8), s.thumb = true →
    Adds (.tAddReg rn rs rd) s rd (s.lo rs) (s.lo rn) ∧
    Subtracts (.tSubReg rn rs rd) s rd (s.lo rs) (s.lo rn) ∧
    Adds (.tAddImm3 off3 rs rd) s rd (s.lo rs) (off3.setWidth 32) ∧
    Subtracts (.tSubImm3 off3 rs rd) s rd (s.lo rs) (off3.setWidth 32) ∧
    ComparesThumb (.tCmpImm rd off8) s (s.lo rd) (off8.setWidth 32) ∧
    Adds (.tAddImm8 rd off8) s rd (s.lo rd) (off8.setWidth 32) ∧
    Subtracts (.tSubImm8 rd off8) s rd (s.lo rd) (off8.setWidth 32) ∧
    LowWrites (.tAdc rs rd) s rd (s.lo rd + s.lo rs + one s.flagC)
      (decide (4294967296 ≤ (s.lo rd).toNat + (s.lo rs).toNat + s.flagC.toNat)) (overflows ((s.lo rd).toInt + (s.lo rs).toInt + s.flagC.toNat)) 0 ∧
    LowWrites (.tSbc rs rd) s rd (s.lo rd - s.lo rs - one (!s.flagC))
      (decide ((s.lo rs).toNat + (!s.flagC).toNat ≤ (s.lo rd).toNat)) (overflows ((s.lo rd).toInt - (s.lo rs).toInt - (!s.flagC).toNat)) 0 ∧
    Subtracts (.tNeg rs rd) s rd 0 (s.lo rs) ∧
    ComparesThumb (.tCmp rs rd) s (s.lo rd) (s.lo rs) ∧
    OnlyFlags (.tCmn rs rd) s (s.lo rd + s.lo rs) (decide (4294967296 ≤ (s.lo rd).toNat + (s.lo rs).toNat))
      (overflows ((s.lo rd).toInt + (s.lo rs).toInt))

/-- The Thumb logical operations (R408, R412, R413, R420, R424, R426, R427): N and Z of the result, C and V as they were. -/
def Obligations.ThumbLogical : Prop :=
  ∀ (s : State) (rs rd : LoReg) (off8 : BitVec 8), s.thumb = true →
    LowWrites (.tMovImm rd off8) s rd (off8.setWidth 32) s.flagC s.flagV 0 ∧
    LowWrites (.tAnd rs rd) s rd (s.lo rd &&& s.lo rs) s.flagC s.flagV 0 ∧
    LowWrites (.tEor rs rd) s rd (s.lo rd ^^^ s.lo rs) s.flagC s.flagV 0 ∧
    LowWrites (.tOrr rs rd) s rd (s.lo rd ||| s.lo rs) s.flagC s.flagV 0 ∧
    LowWrites (.tBic rs rd) s rd (s.lo rd &&& ~~~(s.lo rs)) s.flagC s.flagV 0 ∧
    LowWrites (.tMvn rs rd) s rd (~~~(s.lo rs)) s.flagC s.flagV 0 ∧
    OnlyFlags (.tTst rs rd) s (s.lo rd &&& s.lo rs) s.flagC s.flagV

/-- The Thumb shifts of formats 1 and 4 (R401 to R403, R414 to R416, R419): C is the shifter carry, V as it was; a shift by a register takes one
internal cycle more. -/
def Obligations.ThumbShifts : Prop :=
  ∀ (s : State) (rs rd : LoReg) (off5 : BitVec 5), s.thumb = true →
    let imm := fun ty => shiftImm ty (s.lo rs) off5 s.flagC
    let reg := fun ty => shiftReg ty (s.lo rd) ((s.lo rs).extractLsb' 0 8) s.flagC
    LowWrites (.tLslImm off5 rs rd) s rd (imm .lsl).1 (imm .lsl).2 s.flagV 0 ∧
    LowWrites (.tLsrImm off5 rs rd) s rd (imm .lsr).1 (imm .lsr).2 s.flagV 0 ∧
    LowWrites (.tAsrImm off5 rs rd) s rd (imm .asr).1 (imm .asr).2 s.flagV 0 ∧
    LowWrites (.tLsl rs rd) s rd (reg .lsl).1 (reg .lsl).2 s.flagV 1 ∧
    LowWrites (.tLsr rs rd) s rd (reg .lsr).1 (reg .lsr).2 s.flagV 1 ∧
    LowWrites (.tAsr rs rd) s rd (reg .asr).1 (reg .asr).2 s.flagV 1 ∧
    LowWrites (.tRor rs rd) s rd (reg .ror).1 (reg .ror).2 s.flagV 1

/-- The Thumb operations on any two registers and the address computations of formats 12 and 13 (R428 to R431, R433 to R435): only CMP writes flags,
and a write of register 15 is a branch in Thumb state. -/
def Obligations.ThumbHighAndAddress : Prop :=
  ∀ (s : State) (d m : Reg) (rd : LoReg) (off8 : BitVec 8) (off7 : BitVec 7), s.thumb = true →
    (Permits s (8 ≤ d.val ∨ 8 ≤ m.val) →
      Runs (.tAddHi d m) s [dest s d (s.reg d + s.reg m), (.r15, s.pc + 2)] s.cpsr
        (own s + (if d = 15 then refillAt s true ((s.reg d + s.reg m) &&& 0xFFFFFFFE) else 0)) ∧
      Runs (.tMovHi d m) s [dest s d (s.reg m), (.r15, s.pc + 2)] s.cpsr
        (own s + (if d = 15 then refillAt s true (s.reg m &&& 0xFFFFFFFE) else 0)) ∧
      ComparesThumb (.tCmpHi d m) s (s.reg d) (s.reg m)) ∧
    Runs (.tAddPc rd off8) s [low s rd (((s.pc + 4) &&& 0xFFFFFFFC) + (off8 ++ 0#2).setWidth 32), (.r15, s.pc + 2)] s.cpsr (own s) ∧
    Runs (.tAddSp rd off8) s [low s rd (s.regs.get (phys s.mode 13) + (off8 ++ 0#2).setWidth 32), (.r15, s.pc + 2)] s.cpsr (own s) ∧
    Runs (.tAddSpImm false off7) s [(phys s.mode 13, s.regs.get (phys s.mode 13) + (off7 ++ 0#2).setWidth 32), (.r15, s.pc + 2)] s.cpsr (own s) ∧
    Runs (.tAddSpImm true off7) s [(phys s.mode 13, s.regs.get (phys s.mode 13) - (off7 ++ 0#2).setWidth 32), (.r15, s.pc + 2)] s.cpsr (own s)

/-- The Thumb loads (46_thumb_load_store.md R452, R455, R456, R458 to R460, R462, R464, R466, R468). The width charged for a signed halfword at an odd
address is the model's (log 14). -/
def Obligations.ThumbLoadForms : Prop :=
  ∀ (s : State) (ro rb rd : LoReg) (off5 : BitVec 5) (off8 : BitVec 8), s.thumb = true →
    ThumbLoads (.tLdrPc rd off8) s .word (((s.pc + 4) &&& 0xFFFFFFFC) + (off8 ++ 0#2).setWidth 32) rd ∧
    ThumbLoads (.tLdrReg ro rb rd) s .word (s.lo rb + s.lo ro) rd ∧
    ThumbLoads (.tLdrbReg ro rb rd) s .byte (s.lo rb + s.lo ro) rd ∧
    ThumbLoads (.tLdrhReg ro rb rd) s .half (s.lo rb + s.lo ro) rd ∧
    ThumbLoads (.tLdsbReg ro rb rd) s .sbyte (s.lo rb + s.lo ro) rd ∧
    ThumbLoads (.tLdshReg ro rb rd) s .shalf (s.lo rb + s.lo ro) rd ∧
    ThumbLoads (.tLdrImm off5 rb rd) s .word (s.lo rb + (off5 ++ 0#2).setWidth 32) rd ∧
    ThumbLoads (.tLdrbImm off5 rb rd) s .byte (s.lo rb + off5.setWidth 32) rd ∧
    ThumbLoads (.tLdrhImm off5 rb rd) s .half (s.lo rb + (off5 ++ 0#1).setWidth 32) rd ∧
    ThumbLoads (.tLdrSp rd off8) s .word (s.regs.get (phys s.mode 13) + (off8 ++ 0#2).setWidth 32) rd

/-- The Thumb stores (R453, R454, R457, R461, R463, R465, R467). -/
def Obligations.ThumbStoreForms : Prop :=
  ∀ (s : State) (ro rb rd : LoReg) (off5 : BitVec 5) (off8 : BitVec 8), s.thumb = true → s.mem.wf = true →
    ThumbStores (.tStrReg ro rb rd) s .word (s.lo rb + s.lo ro) rd ∧
    ThumbStores (.tStrhReg ro rb rd) s .half (s.lo rb + s.lo ro) rd ∧
    ThumbStores (.tStrbReg ro rb rd) s .byte (s.lo rb + s.lo ro) rd ∧
    ThumbStores (.tStrImm off5 rb rd) s .word (s.lo rb + (off5 ++ 0#2).setWidth 32) rd ∧
    ThumbStores (.tStrbImm off5 rb rd) s .byte (s.lo rb + off5.setWidth 32) rd ∧
    ThumbStores (.tStrhImm off5 rb rd) s .half (s.lo rb + (off5 ++ 0#1).setWidth 32) rd ∧
    ThumbStores (.tStrSp rd off8) s .word (s.regs.get (phys s.mode 13) + (off8 ++ 0#2).setWidth 32) rd

/-- POP and LDMIA (R471, R473), whose words are not rotated (log 12): the registers of the list, the base written back (for LDMIA unless it is in the
list), the popped program counter a branch in Thumb state. -/
def Obligations.ThumbLoadMultiple : Prop :=
  ∀ (s : State) (r : Bool) (rb : LoReg) (list : BitVec 8), s.thumb = true →
    (Permits s (list ≠ 0 ∨ r = true) →
      let rs := registers (list.setWidth 16) ++ (if r then [15] else [])
      let sp := s.regs.get (phys s.mode 13)
      let as := wordsFrom sp rs.length
      let w := blockLoads s false rs as ++ [(phys s.mode 13, sp + BitVec.ofNat 32 (4 * rs.length)), (.r15, s.pc + 2)]
      Accessible s as → Runs (.tPop r list) s w s.cpsr (blockCost s as + own s + 1 + (if r then refillAt s true (valueIn w s.pc .r15) else 0))) ∧
    (Permits s (list ≠ 0) →
      let rs := registers (list.setWidth 16)
      let as := wordsFrom (s.lo rb) rs.length
      Accessible s as →
      let w := blockLoads s false rs as ++
        (if rb.toReg ∈ rs then [] else [low s rb (s.lo rb + BitVec.ofNat 32 (4 * rs.length))]) ++ [(.r15, s.pc + 2)]
      Runs (.tLdmia rb list) s w s.cpsr
        (blockCost s as + own s + 1))

/-- PUSH and STMIA (R470, R472): the words stored, the base written back; a base in the STMIA list that is not its lowest is stored as written back. -/
def Obligations.ThumbStoreMultiple : Prop :=
  ∀ (s : State) (r : Bool) (rb : LoReg) (list : BitVec 8), s.thumb = true → s.mem.wf = true →
    (Permits s (list ≠ 0 ∨ r = true) →
      let rs := registers (list.setWidth 16) ++ (if r then [14] else [])
      let a := s.regs.get (phys s.mode 13) - BitVec.ofNat 32 (4 * rs.length)
      let as := wordsFrom a rs.length
      Accessible s as → ∃ t : State, exec (.tPush r list) s = .next t ∧
        Core s t [(phys s.mode 13, a), (.r15, s.pc + 2)] s.cpsr s.spsr.get (blockCost s as + nextFetch s [(.r15, s.pc + 2)]) ∧
        StoresBlock s t (as.zip (rs.map fun i => s.regs.get (phys s.mode i)))) ∧
    (Permits s (list ≠ 0) →
      let rs := registers (list.setWidth 16)
      let back := s.lo rb + BitVec.ofNat 32 (4 * rs.length)
      let as := wordsFrom (s.lo rb) rs.length
      Accessible s as → ∃ t : State, exec (.tStmia rb list) s = .next t ∧
        Core s t [low s rb back, (.r15, s.pc + 2)] s.cpsr s.spsr.get (blockCost s as + nextFetch s [(.r15, s.pc + 2)]) ∧
        StoresBlock s t (as.zip (rs.map (blockValue s false rs true rb.toReg back))))

/-- The Thumb branches (47_thumb_branch.md R500, R502): taken, and the conditional one not taken. -/
def Obligations.ThumbBranches : Prop :=
  ∀ (s : State) (c : Cond) (off8 : BitVec 8) (off11 : BitVec 11), s.thumb = true →
    (let target := s.pc + 4 + (off8 ++ 0#1).signExtend 32
     s.passes c = true → Runs (.tBCond c off8) s [(.r15, target)] s.cpsr (own s + refillAt s true target)) ∧
    (s.passes c = false → Runs (.tBCond c off8) s [(.r15, s.pc + 2)] s.cpsr (own s)) ∧
    (let target := s.pc + 4 + (off11 ++ 0#1).signExtend 32
     Runs (.tB off11) s [(.r15, target)] s.cpsr (own s + refillAt s true target))

/-- The two halves of the Thumb BL (R510, R511): each an instruction of its own. -/
def Obligations.ThumbBranchLink : Prop :=
  ∀ (s : State) (off : BitVec 11), s.thumb = true →
    Runs (.tBlHi off) s [(phys s.mode 14, s.pc + 4 + (off ++ 0#12).signExtend 32), (.r15, s.pc + 2)] s.cpsr (own s) ∧
    (let target := (s.regs.get (phys s.mode 14) + (off ++ 0#1).setWidth 32) &&& 0xFFFFFFFE
     Runs (.tBlLo off) s [(.r15, target), (phys s.mode 14, (s.pc + 2) ||| 1)] s.cpsr (own s + refillAt s true target))

/-! ## Encoding -/

/-- Some words of the spec's examples, of each family, decode to the instructions they stand for. -/
def Obligations.ExampleWords : Prop :=
  decodeTableWord 32 0xE0000291 = some (.mul .al false 0 2 1) ∧
  decodeTableWord 32 0xE0E10392 = some (.smlal .al false 1 0 3 2) ∧
  decodeTableWord 32 0xE1910202 = some (.orrImmShift .al true 1 0 ⟨2, .lsl, 4⟩) ∧
  decodeTableWord 32 0xE3A008FF = some (.movImm .al false 0 ⟨8, 0xFF⟩) ∧
  decodeTableWord 32 0xE161F000 = some (.msrReg .al true 1 0) ∧
  decodeTableWord 32 0xE7110102 = some (.ldrReg .al ⟨true, false, false⟩ 1 0 ⟨2, .lsl, 2⟩) ∧
  decodeTableWord 32 0xE05100B2 = some (.ldrhImm .al ⟨false, false, false⟩ 1 0 2) ∧
  decodeTableWord 32 0xE92D4003 = some (.stm .al ⟨true, false, true⟩ 13 0x4003) ∧
  decodeTableWord 32 0xE8D08000 = some (.ldmRet .al ⟨false, true, false⟩ 0 0x8000) ∧
  decodeTableWord 32 0xE1420091 = some (.swpb .al 2 0 1) ∧
  decodeTableWord 32 0xEA000002 = some (.b .al 2) ∧
  decodeTableWord 32 0xEE010F10 = some (.coprocOp .al) ∧
  decodeTableWord 16 0x1DC8 = some (.tAddImm3 7 1 0) ∧
  decodeTableWord 16 0x4580 = some (.tCmpHi 8 0) ∧
  decodeTableWord 16 0x5E88 = some (.tLdshReg 2 1 0) ∧
  decodeTableWord 16 0xBD03 = some (.tPop true 3) ∧
  decodeTableWord 16 0xD1FE = some (.tBCond .ne 0xFE)

/-- Decoding the encoding of a well-formed instruction gives it back, with every operand, from the code and from its bytes. -/
def Obligations.DecodeEncode : Prop :=
  ∀ i : Instr, i.wf = true → i.encode.decode = i ∧ decodeBytes (!i.isArm) i.encode.bytes = .ok i

/-- The decoder reads from every word and every halfword the first row of the opcode table that holds it (30_encoding.md R153). -/
def Obligations.DecoderFollowsTable : Prop :=
  (∀ w : Word, firstRow armRows w.toNat = some (decodeArm w).mnemonic) ∧
  (∀ h : Half, firstRow thumbRows h.toNat = some (decodeThumb h).mnemonic)

/-! ## Whole-machine rules -/

/-- Every step keeps the invariant: a legal mode, a fetch address aligned for the state, memory in canonical form (10_state.md R39, R42). -/
def Obligations.StepKeepsInv : Prop :=
  ∀ s t : State, s.Inv → step s = .next t → t.Inv

/-- The only way out of user mode is an exception (60_exceptions.md R551): the mode after a step from user mode is user mode, or that of an exception
just entered, at its vector, with IRQs masked, in ARM state, and with user mode in the SPSR. -/
def Obligations.UserModeLeftByExceptionOnly : Prop :=
  ∀ s t : State, s.mode = .usr → step s = .next t →
    t.mode = .usr ∨
    (∃ m vector, (m, vector) ∈ [(Mode.svc, 0x00000008#32), (.und, 0x00000004#32), (.irq, 0x00000018#32), (.fiq, 0x0000001C#32)] ∧
      t.mode = m ∧ t.pc = vector ∧ t.thumb = false ∧ t.cpsr.getLsbD 7 = true ∧ t.spsr.get m = some s.cpsr)

/-- No step changes a byte of the boot ROM, of the cartridge ROM or of an address of no region (20_memory.md R90, R100, R103). -/
def Obligations.ImagesNeverChange : Prop :=
  ∀ (s t : State) (a : Word), s.mem.wf = true → step s = .next t →
    (∀ r l, transform s.cfg a = .mapped r l → r = .bios ∨ r = .rom) → t.read8 a = s.read8 a

/-- What no step does: it changes no parameter, no cost and no fault mark, it takes back no I/O event, and it moves the two counters by one amount
(10_state.md R51, R52, R54, R55). The inputs it takes are the model's form (logs 5 and 6). -/
def Obligations.StepFrame : Prop :=
  ∀ s t : State, step s = .next t →
    t.cfg = s.cfg ∧ t.costCode = s.costCode ∧ t.costData = s.costData ∧ t.fault = s.fault ∧
    (∃ es, t.ioEvents = s.ioEvents ++ es) ∧ (∃ n : DWord, t.cycles = s.cycles + n ∧ t.sched = s.sched + n) ∧
    t.fiqLine = s.fiqLine.tail ∧ t.draws = s.draws + 1

/-- What the collaborators' actions do (60_exceptions.md R542, 70_reset_and_hazards.md R611): `raise` sets a bit of IF's bytes, without the quirk and
without an event; `poke` stores a byte of a writable region, at its place; `set_cost` replaces an entry of the cartridge's rows; `consume` takes from
`sched_counter`; `drain` takes events from the front. An action outside its range is none (the form of that is log 18). That `raise` sets its
bit also in a byte of IF above the I/O window, where nothing reads it, is the model's choice (log 24). No action changes a register, a status word, the
cycle counter, the configuration, the fault mark or a byte of an image, and each keeps the invariant. -/
def Obligations.CollaboratorFrame : Prop :=
  (∀ (x : Action) (s t : State), act x s = some t →
    t.regs = s.regs ∧ t.cpsr = s.cpsr ∧ t.spsr = s.spsr ∧ t.cycles = s.cycles ∧ t.cfg = s.cfg ∧ t.fault = s.fault ∧ (s.Inv → t.Inv) ∧
    (s.mem.wf = true → ∀ (a : Word) (l : Nat), transform s.cfg a = .mapped .bios l ∨ transform s.cfg a = .mapped .rom l →
      t.read8 a = s.read8 a)) ∧
  (∀ (s : State) (b : Fin 16), s.mem.wf = true → ∃ m : Memory, act (.raise b) s = some { s with mem := m } ∧
    (m.get 0x04000203 ++ m.get 0x04000202 : Half) = (s.mem.get 0x04000203 ++ s.mem.get 0x04000202) ||| BitVec.ofNat 16 (2 ^ b.val) ∧
    ∀ k, k ≠ 0x04000202 → k ≠ 0x04000203 → m.get k = s.mem.get k) ∧
  (∀ (s : State) (a : Word) (b : Byte), s.mem.wf = true →
    (∀ r l, transform s.cfg a = .mapped r l → r ≠ .bios → r ≠ .rom → ∃ m : Memory, act (.poke a b) s = some { s with mem := m } ∧
      ∀ x : Word, readByte s.cfg m x = if transform s.cfg x = .mapped r l then b else s.read8 x) ∧
    ((∀ r l, transform s.cfg a = .mapped r l → r = .bios ∨ r = .rom) → act (.poke a b) s = none)) ∧
  (∀ (s : State) (k : Kind) (top : Nat) (w : Width) (q : Seq) (n : Nat),
    (0x08 ≤ top ∧ top ≤ 0x0F → ∃ code data : CostTable, act (.setCost k top w q n) s = some { s with costCode := code, costData := data } ∧
      ∀ (k' : Kind) (w' : Width) (q' : Seq) (a : Word), ({ s with costCode := code, costData := data } : State).costOf k' q' w' a =
        if k' = k ∧ w' = w ∧ q' = q ∧ a.toNat / 0x1000000 = top then n else s.costOf k' q' w' a) ∧
    (¬ (0x08 ≤ top ∧ top ≤ 0x0F) → act (.setCost k top w q n) s = none)) ∧
  (∀ (s : State) (n : DWord), act (.consume n) s = if n.toNat ≤ s.sched.toNat then some { s with sched := s.sched - n } else none) ∧
  (∀ (s : State) (n : Nat), act (.drain n) s = if n ≤ s.ioEvents.length then some { s with ioEvents := s.ioEvents.drop n } else none)

/-- Which instructions write the status words (10_state.md R46, R50): the SPSR of a mode MSR in that mode and an exception entry into it; the bits of
CPSR below the flags MSR, BX, exception entry and the exception returns. -/
def Obligations.StatusWriters : Prop :=
  ∀ (s t : State) (i : Instr), exec i s = .next t →
    (∀ k : Mode, t.spsr.get k ≠ s.spsr.get k →
      (k = s.mode ∧ ∃ c mask x, i = msr c true mask x) ∨ (k = .svc ∧ CallsSupervisor i) ∨ (k = .und ∧ Undefined i ∧ s.cfg.undef = .trap)) ∧
    (t.cpsr.extractLsb' 0 28 ≠ s.cpsr.extractLsb' 0 28 →
      (∃ c mask x, i = msr c false mask x) ∨ (∃ c rm, i = .bx c rm) ∨ (∃ h rm, i = .tBx h rm) ∨ CallsSupervisor i ∨
        (Undefined i ∧ s.cfg.undef = .trap) ∨ Returns i)

/-- No instruction touches a banked register but through the bank map (10_state.md R33): a register that the current mode does not see keeps its value,
but for the user bank under the user-bank LDM and the link register of an exception's mode. -/
def Obligations.BankedRegistersKept : Prop :=
  ∀ (s t : State) (i : Instr) (p : Phys), exec i s = .next t → (∀ r : Reg, phys s.mode r ≠ p) → t.regs.get p ≠ s.regs.get p →
    ((∃ c m rn list, i = .ldmUser c m rn list) ∧ ∃ r : Reg, phys .usr r = p) ∨ (p = .r14_svc ∧ CallsSupervisor i) ∨
      (p = .r14_und ∧ Undefined i ∧ s.cfg.undef = .trap)

/-- Under `UNPREDICTABLE_POLICY = fault` an instruction that is an UNPREDICTABLE case stops, with the name of a case that it is
(93_implementation_defined.md section 2; which of several is log 15). -/
def Obligations.UnpredictableFaults : Prop :=
  ∀ (s : State) (i : Instr) (u : Unpred), Unpredictable u i s → s.cfg.unpredictable = .fault → s.thumb = !i.isArm → s.passes (conditionOf i) = true →
    ∃ u', Unpredictable u' i s ∧ Halts (exec i s) (.unpredictable u') s

/-- Under `arm7tdmi` and `discard` every instruction completes, but for a status access or an exception return that is a mode error
(60_exceptions.md R551). -/
def Obligations.EveryInstructionCompletes : Prop :=
  ∀ (s : State) (i : Instr), s.cfg.unpredictable = .arm7tdmi → s.cfg.oow = .discard →
    (∃ t : State, exec i s = .next t) ∨
      ((∃ t : State, Halts (exec i s) .modeError t) ∧ ((∃ c rd, i = .mrs c true rd) ∨ (∃ c r mask x, i = msr c r mask x) ∨ Returns i))

end Statements
end

