-- ==== Sys2Proof/Laws/State.lean ====
section
/-! SUPPORT. What each named operation does to each field of State: one lemma a field, so that no proof unfolds a record update. -/

namespace Sys2Proof.Machine

/-! ## Registers -/

theorem Regs.get_set (r : Regs) (p q : Phys) (v : Word) : (r.set p v).get q = if q = p then v else r.get q := by
  cases p <;> cases q <;> rfl
@[simp] theorem Regs.get_set_same (r : Regs) (p : Phys) (v : Word) : (r.set p v).get p = v := by
  simp [Regs.get_set]

theorem Regs.get_set_ne (r : Regs) {p q : Phys} (v : Word) (h : q ≠ p) : (r.set p v).get q = r.get q := by
  simp [Regs.get_set, h]

theorem Regs.ext_get {r t : Regs} (h : ∀ p, r.get p = t.get p) : r = t := by
  cases r; cases t
  simp only [Regs.mk.injEq]
  exact ⟨h .r0, h .r1, h .r2, h .r3, h .r4, h .r5, h .r6, h .r7, h .r8_usr, h .r9_usr, h .r10_usr, h .r11_usr, h .r12_usr,
    h .r8_fiq, h .r9_fiq, h .r10_fiq, h .r11_fiq, h .r12_fiq, h .r13_usr, h .r14_usr, h .r13_fiq, h .r14_fiq, h .r13_irq,
    h .r14_irq, h .r13_svc, h .r14_svc, h .r13_abt, h .r14_abt, h .r13_und, h .r14_und, h .r15⟩

/-- The bank map is one to one in every mode (R32). -/
theorem phys_inj (m : Mode) (i j : Reg) : phys m i = phys m j ↔ i = j := by
  revert i j; cases m <;> decide

/-- Only register 15 is held in `r15`. -/
theorem phys_eq_r15 (m : Mode) (i : Reg) : phys m i = .r15 ↔ i = 15 := by
  revert i; cases m <;> decide
@[simp] theorem phys_15 (m : Mode) : phys m 15 = .r15 := by cases m <;> rfl
@[simp] theorem Regs.set_r15_get (r : Regs) (v : Word) : (r.set .r15 v).r15 = v := rfl

theorem Regs.get_r15 (r : Regs) : r.get .r15 = r.r15 := rfl

theorem Regs.set_r15_of_ne (r : Regs) {p : Phys} (v : Word) (h : p ≠ .r15) : (r.set p v).r15 = r.r15 := by
  rw [← Regs.get_r15, Regs.get_set_ne _ _ (Ne.symm h), Regs.get_r15]

/-! ## The fields -/

section setPcFields
variable (s : State) (v : Word)
@[simp] theorem State.setPc_regs : (s.setPc v).regs = s.regs.set .r15 v := rfl
@[simp] theorem State.setPc_cpsr : (s.setPc v).cpsr = s.cpsr := rfl
@[simp] theorem State.setPc_spsr : (s.setPc v).spsr = s.spsr := rfl
@[simp] theorem State.setPc_mem : (s.setPc v).mem = s.mem := rfl
@[simp] theorem State.setPc_cycles : (s.setPc v).cycles = s.cycles := rfl
@[simp] theorem State.setPc_sched : (s.setPc v).sched = s.sched := rfl
@[simp] theorem State.setPc_costCode : (s.setPc v).costCode = s.costCode := rfl
@[simp] theorem State.setPc_costData : (s.setPc v).costData = s.costData := rfl
@[simp] theorem State.setPc_ioEvents : (s.setPc v).ioEvents = s.ioEvents := rfl
@[simp] theorem State.setPc_fault : (s.setPc v).fault = s.fault := rfl
@[simp] theorem State.setPc_cfg : (s.setPc v).cfg = s.cfg := rfl
@[simp] theorem State.setPc_fiqLine : (s.setPc v).fiqLine = s.fiqLine := rfl
@[simp] theorem State.setPc_draws : (s.setPc v).draws = s.draws := rfl
end setPcFields

section branchFields
variable (s : State) (v : Word)
@[simp] theorem State.branch_regs : (s.branch v).regs = s.regs.set .r15 (alignPc s.thumb v) := rfl
@[simp] theorem State.branch_cpsr : (s.branch v).cpsr = s.cpsr := rfl
@[simp] theorem State.branch_spsr : (s.branch v).spsr = s.spsr := rfl
@[simp] theorem State.branch_mem : (s.branch v).mem = s.mem := rfl
@[simp] theorem State.branch_cycles : (s.branch v).cycles = s.cycles := rfl
@[simp] theorem State.branch_sched : (s.branch v).sched = s.sched := rfl
@[simp] theorem State.branch_costCode : (s.branch v).costCode = s.costCode := rfl
@[simp] theorem State.branch_costData : (s.branch v).costData = s.costData := rfl
@[simp] theorem State.branch_ioEvents : (s.branch v).ioEvents = s.ioEvents := rfl
@[simp] theorem State.branch_fault : (s.branch v).fault = s.fault := rfl
@[simp] theorem State.branch_cfg : (s.branch v).cfg = s.cfg := rfl
@[simp] theorem State.branch_fiqLine : (s.branch v).fiqLine = s.fiqLine := rfl
@[simp] theorem State.branch_draws : (s.branch v).draws = s.draws := rfl
end branchFields

section setMemFields
variable (s : State) (m : Memory)
@[simp] theorem State.setMem_regs : (s.setMem m).regs = s.regs := rfl
@[simp] theorem State.setMem_cpsr : (s.setMem m).cpsr = s.cpsr := rfl
@[simp] theorem State.setMem_spsr : (s.setMem m).spsr = s.spsr := rfl
@[simp] theorem State.setMem_mem : (s.setMem m).mem = m := rfl
@[simp] theorem State.setMem_cycles : (s.setMem m).cycles = s.cycles := rfl
@[simp] theorem State.setMem_sched : (s.setMem m).sched = s.sched := rfl
@[simp] theorem State.setMem_costCode : (s.setMem m).costCode = s.costCode := rfl
@[simp] theorem State.setMem_costData : (s.setMem m).costData = s.costData := rfl
@[simp] theorem State.setMem_ioEvents : (s.setMem m).ioEvents = s.ioEvents := rfl
@[simp] theorem State.setMem_fault : (s.setMem m).fault = s.fault := rfl
@[simp] theorem State.setMem_cfg : (s.setMem m).cfg = s.cfg := rfl
@[simp] theorem State.setMem_fiqLine : (s.setMem m).fiqLine = s.fiqLine := rfl
@[simp] theorem State.setMem_draws : (s.setMem m).draws = s.draws := rfl
end setMemFields

section writeFlagsFields
variable (s : State) (n z c v : Bool)
@[simp] theorem State.writeFlags_regs : (s.writeFlags n z c v).regs = s.regs := rfl
@[simp] theorem State.writeFlags_cpsr : (s.writeFlags n z c v).cpsr = withFlags s.cpsr n z c v := rfl
@[simp] theorem State.writeFlags_spsr : (s.writeFlags n z c v).spsr = s.spsr := rfl
@[simp] theorem State.writeFlags_mem : (s.writeFlags n z c v).mem = s.mem := rfl
@[simp] theorem State.writeFlags_cycles : (s.writeFlags n z c v).cycles = s.cycles := rfl
@[simp] theorem State.writeFlags_sched : (s.writeFlags n z c v).sched = s.sched := rfl
@[simp] theorem State.writeFlags_costCode : (s.writeFlags n z c v).costCode = s.costCode := rfl
@[simp] theorem State.writeFlags_costData : (s.writeFlags n z c v).costData = s.costData := rfl
@[simp] theorem State.writeFlags_ioEvents : (s.writeFlags n z c v).ioEvents = s.ioEvents := rfl
@[simp] theorem State.writeFlags_fault : (s.writeFlags n z c v).fault = s.fault := rfl
@[simp] theorem State.writeFlags_cfg : (s.writeFlags n z c v).cfg = s.cfg := rfl
@[simp] theorem State.writeFlags_fiqLine : (s.writeFlags n z c v).fiqLine = s.fiqLine := rfl
@[simp] theorem State.writeFlags_draws : (s.writeFlags n z c v).draws = s.draws := rfl
end writeFlagsFields

section flagsOfFields
variable (s : State) (r : Word) (c v : Bool)
@[simp] theorem State.flagsOf_regs : (s.flagsOf r c v).regs = s.regs := rfl
@[simp] theorem State.flagsOf_cpsr : (s.flagsOf r c v).cpsr = withFlags s.cpsr (negOf r) (zeroOf r) c v := rfl
@[simp] theorem State.flagsOf_spsr : (s.flagsOf r c v).spsr = s.spsr := rfl
@[simp] theorem State.flagsOf_mem : (s.flagsOf r c v).mem = s.mem := rfl
@[simp] theorem State.flagsOf_cycles : (s.flagsOf r c v).cycles = s.cycles := rfl
@[simp] theorem State.flagsOf_sched : (s.flagsOf r c v).sched = s.sched := rfl
@[simp] theorem State.flagsOf_costCode : (s.flagsOf r c v).costCode = s.costCode := rfl
@[simp] theorem State.flagsOf_costData : (s.flagsOf r c v).costData = s.costData := rfl
@[simp] theorem State.flagsOf_ioEvents : (s.flagsOf r c v).ioEvents = s.ioEvents := rfl
@[simp] theorem State.flagsOf_fault : (s.flagsOf r c v).fault = s.fault := rfl
@[simp] theorem State.flagsOf_cfg : (s.flagsOf r c v).cfg = s.cfg := rfl
@[simp] theorem State.flagsOf_fiqLine : (s.flagsOf r c v).fiqLine = s.fiqLine := rfl
@[simp] theorem State.flagsOf_draws : (s.flagsOf r c v).draws = s.draws := rfl
end flagsOfFields

section aluFlagsFields
variable (s : State) (o : Alu)
@[simp] theorem State.aluFlags_regs : (s.aluFlags o).regs = s.regs := rfl
@[simp] theorem State.aluFlags_cpsr : (s.aluFlags o).cpsr = withFlags s.cpsr (negOf o.result) (zeroOf o.result) o.c o.v := rfl
@[simp] theorem State.aluFlags_spsr : (s.aluFlags o).spsr = s.spsr := rfl
@[simp] theorem State.aluFlags_mem : (s.aluFlags o).mem = s.mem := rfl
@[simp] theorem State.aluFlags_cycles : (s.aluFlags o).cycles = s.cycles := rfl
@[simp] theorem State.aluFlags_sched : (s.aluFlags o).sched = s.sched := rfl
@[simp] theorem State.aluFlags_costCode : (s.aluFlags o).costCode = s.costCode := rfl
@[simp] theorem State.aluFlags_costData : (s.aluFlags o).costData = s.costData := rfl
@[simp] theorem State.aluFlags_ioEvents : (s.aluFlags o).ioEvents = s.ioEvents := rfl
@[simp] theorem State.aluFlags_fault : (s.aluFlags o).fault = s.fault := rfl
@[simp] theorem State.aluFlags_cfg : (s.aluFlags o).cfg = s.cfg := rfl
@[simp] theorem State.aluFlags_fiqLine : (s.aluFlags o).fiqLine = s.fiqLine := rfl
@[simp] theorem State.aluFlags_draws : (s.aluFlags o).draws = s.draws := rfl
end aluFlagsFields

section mulFlagsFields
variable (s : State) (r : Word)
@[simp] theorem State.mulFlags_regs : (s.mulFlags r).regs = s.regs := rfl
@[simp] theorem State.mulFlags_cpsr : (s.mulFlags r).cpsr = withFlags s.cpsr (negOf r) (zeroOf r) (Config.mulC s.draws) s.flagV := rfl
@[simp] theorem State.mulFlags_spsr : (s.mulFlags r).spsr = s.spsr := rfl
@[simp] theorem State.mulFlags_mem : (s.mulFlags r).mem = s.mem := rfl
@[simp] theorem State.mulFlags_cycles : (s.mulFlags r).cycles = s.cycles := rfl
@[simp] theorem State.mulFlags_sched : (s.mulFlags r).sched = s.sched := rfl
@[simp] theorem State.mulFlags_costCode : (s.mulFlags r).costCode = s.costCode := rfl
@[simp] theorem State.mulFlags_costData : (s.mulFlags r).costData = s.costData := rfl
@[simp] theorem State.mulFlags_ioEvents : (s.mulFlags r).ioEvents = s.ioEvents := rfl
@[simp] theorem State.mulFlags_fault : (s.mulFlags r).fault = s.fault := rfl
@[simp] theorem State.mulFlags_cfg : (s.mulFlags r).cfg = s.cfg := rfl
@[simp] theorem State.mulFlags_fiqLine : (s.mulFlags r).fiqLine = s.fiqLine := rfl
@[simp] theorem State.mulFlags_draws : (s.mulFlags r).draws = s.draws := rfl
end mulFlagsFields

section longMulFlagsFields
variable (s : State) (p : DWord)
@[simp] theorem State.longMulFlags_regs : (s.longMulFlags p).regs = s.regs := rfl
@[simp] theorem State.longMulFlags_cpsr : (s.longMulFlags p).cpsr = withFlags s.cpsr (p.getLsbD 63) (decide (p = 0)) (Config.mulC s.draws) (Config.mulV s.draws) := rfl
@[simp] theorem State.longMulFlags_spsr : (s.longMulFlags p).spsr = s.spsr := rfl
@[simp] theorem State.longMulFlags_mem : (s.longMulFlags p).mem = s.mem := rfl
@[simp] theorem State.longMulFlags_cycles : (s.longMulFlags p).cycles = s.cycles := rfl
@[simp] theorem State.longMulFlags_sched : (s.longMulFlags p).sched = s.sched := rfl
@[simp] theorem State.longMulFlags_costCode : (s.longMulFlags p).costCode = s.costCode := rfl
@[simp] theorem State.longMulFlags_costData : (s.longMulFlags p).costData = s.costData := rfl
@[simp] theorem State.longMulFlags_ioEvents : (s.longMulFlags p).ioEvents = s.ioEvents := rfl
@[simp] theorem State.longMulFlags_fault : (s.longMulFlags p).fault = s.fault := rfl
@[simp] theorem State.longMulFlags_cfg : (s.longMulFlags p).cfg = s.cfg := rfl
@[simp] theorem State.longMulFlags_fiqLine : (s.longMulFlags p).fiqLine = s.fiqLine := rfl
@[simp] theorem State.longMulFlags_draws : (s.longMulFlags p).draws = s.draws := rfl
end longMulFlagsFields

section internalFields
variable (s : State) (n : Nat)
@[simp] theorem State.internal_regs : (s.internal n).regs = s.regs := rfl
@[simp] theorem State.internal_cpsr : (s.internal n).cpsr = s.cpsr := rfl
@[simp] theorem State.internal_spsr : (s.internal n).spsr = s.spsr := rfl
@[simp] theorem State.internal_mem : (s.internal n).mem = s.mem := rfl
@[simp] theorem State.internal_cycles : (s.internal n).cycles = s.cycles + BitVec.ofNat 64 n := rfl
@[simp] theorem State.internal_sched : (s.internal n).sched = s.sched + BitVec.ofNat 64 n := rfl
@[simp] theorem State.internal_costCode : (s.internal n).costCode = s.costCode := rfl
@[simp] theorem State.internal_costData : (s.internal n).costData = s.costData := rfl
@[simp] theorem State.internal_ioEvents : (s.internal n).ioEvents = s.ioEvents := rfl
@[simp] theorem State.internal_fault : (s.internal n).fault = s.fault := rfl
@[simp] theorem State.internal_cfg : (s.internal n).cfg = s.cfg := rfl
@[simp] theorem State.internal_fiqLine : (s.internal n).fiqLine = s.fiqLine := rfl
@[simp] theorem State.internal_draws : (s.internal n).draws = s.draws := rfl
end internalFields

section chargeFields
variable (s : State) (k : Kind) (q : Seq) (w : Width) (a : Word)
@[simp] theorem State.charge_regs : (s.charge k q w a).regs = s.regs := rfl
@[simp] theorem State.charge_cpsr : (s.charge k q w a).cpsr = s.cpsr := rfl
@[simp] theorem State.charge_spsr : (s.charge k q w a).spsr = s.spsr := rfl
@[simp] theorem State.charge_mem : (s.charge k q w a).mem = s.mem := rfl
@[simp] theorem State.charge_cycles : (s.charge k q w a).cycles = s.cycles + BitVec.ofNat 64 (s.costOf k q w a) := rfl
@[simp] theorem State.charge_sched : (s.charge k q w a).sched = s.sched + BitVec.ofNat 64 (s.costOf k q w a) := rfl
@[simp] theorem State.charge_costCode : (s.charge k q w a).costCode = s.costCode := rfl
@[simp] theorem State.charge_costData : (s.charge k q w a).costData = s.costData := rfl
@[simp] theorem State.charge_ioEvents : (s.charge k q w a).ioEvents = s.ioEvents := rfl
@[simp] theorem State.charge_fault : (s.charge k q w a).fault = s.fault := rfl
@[simp] theorem State.charge_cfg : (s.charge k q w a).cfg = s.cfg := rfl
@[simp] theorem State.charge_fiqLine : (s.charge k q w a).fiqLine = s.fiqLine := rfl
@[simp] theorem State.charge_draws : (s.charge k q w a).draws = s.draws := rfl
end chargeFields

section advanceFields
variable (s : State)
@[simp] theorem State.advance_regs : (s.advance).regs = s.regs.set .r15 (s.pc + s.ilen) := rfl
@[simp] theorem State.advance_cpsr : (s.advance).cpsr = s.cpsr := rfl
@[simp] theorem State.advance_spsr : (s.advance).spsr = s.spsr := rfl
@[simp] theorem State.advance_mem : (s.advance).mem = s.mem := rfl
@[simp] theorem State.advance_cycles : (s.advance).cycles = s.cycles := rfl
@[simp] theorem State.advance_sched : (s.advance).sched = s.sched := rfl
@[simp] theorem State.advance_costCode : (s.advance).costCode = s.costCode := rfl
@[simp] theorem State.advance_costData : (s.advance).costData = s.costData := rfl
@[simp] theorem State.advance_ioEvents : (s.advance).ioEvents = s.ioEvents := rfl
@[simp] theorem State.advance_fault : (s.advance).fault = s.fault := rfl
@[simp] theorem State.advance_cfg : (s.advance).cfg = s.cfg := rfl
@[simp] theorem State.advance_fiqLine : (s.advance).fiqLine = s.fiqLine := rfl
@[simp] theorem State.advance_draws : (s.advance).draws = s.draws := rfl
end advanceFields

section fetchedFields
variable (s : State)
@[simp] theorem State.fetched_regs : (s.fetched).regs = s.regs.set .r15 (s.pc + s.ilen) := rfl
@[simp] theorem State.fetched_cpsr : (s.fetched).cpsr = s.cpsr := rfl
@[simp] theorem State.fetched_spsr : (s.fetched).spsr = s.spsr := rfl
@[simp] theorem State.fetched_mem : (s.fetched).mem = s.mem := rfl
@[simp] theorem State.fetched_cycles : (s.fetched).cycles = s.cycles + BitVec.ofNat 64 (s.costOf .code .s s.fw s.pc) := rfl
@[simp] theorem State.fetched_sched : (s.fetched).sched = s.sched + BitVec.ofNat 64 (s.costOf .code .s s.fw s.pc) := rfl
@[simp] theorem State.fetched_costCode : (s.fetched).costCode = s.costCode := rfl
@[simp] theorem State.fetched_costData : (s.fetched).costData = s.costData := rfl
@[simp] theorem State.fetched_ioEvents : (s.fetched).ioEvents = s.ioEvents := rfl
@[simp] theorem State.fetched_fault : (s.fetched).fault = s.fault := rfl
@[simp] theorem State.fetched_cfg : (s.fetched).cfg = s.cfg := rfl
@[simp] theorem State.fetched_fiqLine : (s.fetched).fiqLine = s.fiqLine := rfl
@[simp] theorem State.fetched_draws : (s.fetched).draws = s.draws := rfl
end fetchedFields

section refillFields
variable (s : State)
@[simp] theorem State.refill_regs : (s.refill).regs = s.regs := rfl
@[simp] theorem State.refill_cpsr : (s.refill).cpsr = s.cpsr := rfl
@[simp] theorem State.refill_spsr : (s.refill).spsr = s.spsr := rfl
@[simp] theorem State.refill_mem : (s.refill).mem = s.mem := rfl
@[simp] theorem State.refill_cycles : (s.refill).cycles = s.cycles + BitVec.ofNat 64 (s.costOf .code .n s.fw s.pc) + BitVec.ofNat 64 (s.costOf .code .s s.fw s.pc) := rfl
@[simp] theorem State.refill_sched : (s.refill).sched = s.sched + BitVec.ofNat 64 (s.costOf .code .n s.fw s.pc) + BitVec.ofNat 64 (s.costOf .code .s s.fw s.pc) := rfl
@[simp] theorem State.refill_costCode : (s.refill).costCode = s.costCode := rfl
@[simp] theorem State.refill_costData : (s.refill).costData = s.costData := rfl
@[simp] theorem State.refill_ioEvents : (s.refill).ioEvents = s.ioEvents := rfl
@[simp] theorem State.refill_fault : (s.refill).fault = s.fault := rfl
@[simp] theorem State.refill_cfg : (s.refill).cfg = s.cfg := rfl
@[simp] theorem State.refill_fiqLine : (s.refill).fiqLine = s.fiqLine := rfl
@[simp] theorem State.refill_draws : (s.refill).draws = s.draws := rfl
end refillFields

section nnextFields
variable (s : State)
@[simp] theorem State.nnext_regs : (s.nnext).regs = s.regs := rfl
@[simp] theorem State.nnext_cpsr : (s.nnext).cpsr = s.cpsr := rfl
@[simp] theorem State.nnext_spsr : (s.nnext).spsr = s.spsr := rfl
@[simp] theorem State.nnext_mem : (s.nnext).mem = s.mem := rfl
@[simp] theorem State.nnext_cycles : (s.nnext).cycles = s.cycles + BitVec.ofNat 64 (s.costOf .code .n s.fw s.pc) := rfl
@[simp] theorem State.nnext_sched : (s.nnext).sched = s.sched + BitVec.ofNat 64 (s.costOf .code .n s.fw s.pc) := rfl
@[simp] theorem State.nnext_costCode : (s.nnext).costCode = s.costCode := rfl
@[simp] theorem State.nnext_costData : (s.nnext).costData = s.costData := rfl
@[simp] theorem State.nnext_ioEvents : (s.nnext).ioEvents = s.ioEvents := rfl
@[simp] theorem State.nnext_fault : (s.nnext).fault = s.fault := rfl
@[simp] theorem State.nnext_cfg : (s.nnext).cfg = s.cfg := rfl
@[simp] theorem State.nnext_fiqLine : (s.nnext).fiqLine = s.fiqLine := rfl
@[simp] theorem State.nnext_draws : (s.nnext).draws = s.draws := rfl
end nnextFields

section setRegFields
variable (s : State) (i : Reg) (v : Word)
@[simp] theorem State.setReg_cpsr : (s.setReg i v).cpsr = s.cpsr := by unfold State.setReg; split <;> rfl
@[simp] theorem State.setReg_spsr : (s.setReg i v).spsr = s.spsr := by unfold State.setReg; split <;> rfl
@[simp] theorem State.setReg_mem : (s.setReg i v).mem = s.mem := by unfold State.setReg; split <;> rfl
@[simp] theorem State.setReg_cycles : (s.setReg i v).cycles = s.cycles := by unfold State.setReg; split <;> rfl
@[simp] theorem State.setReg_sched : (s.setReg i v).sched = s.sched := by unfold State.setReg; split <;> rfl
@[simp] theorem State.setReg_costCode : (s.setReg i v).costCode = s.costCode := by unfold State.setReg; split <;> rfl
@[simp] theorem State.setReg_costData : (s.setReg i v).costData = s.costData := by unfold State.setReg; split <;> rfl
@[simp] theorem State.setReg_ioEvents : (s.setReg i v).ioEvents = s.ioEvents := by unfold State.setReg; split <;> rfl
@[simp] theorem State.setReg_fault : (s.setReg i v).fault = s.fault := by unfold State.setReg; split <;> rfl
@[simp] theorem State.setReg_cfg : (s.setReg i v).cfg = s.cfg := by unfold State.setReg; split <;> rfl
@[simp] theorem State.setReg_fiqLine : (s.setReg i v).fiqLine = s.fiqLine := by unfold State.setReg; split <;> rfl
@[simp] theorem State.setReg_draws : (s.setReg i v).draws = s.draws := by unfold State.setReg; split <;> rfl
end setRegFields

section setUserRegFields
variable (s : State) (i : Reg) (v : Word)
@[simp] theorem State.setUserReg_cpsr : (s.setUserReg i v).cpsr = s.cpsr := by unfold State.setUserReg; split <;> rfl
@[simp] theorem State.setUserReg_spsr : (s.setUserReg i v).spsr = s.spsr := by unfold State.setUserReg; split <;> rfl
@[simp] theorem State.setUserReg_mem : (s.setUserReg i v).mem = s.mem := by unfold State.setUserReg; split <;> rfl
@[simp] theorem State.setUserReg_cycles : (s.setUserReg i v).cycles = s.cycles := by unfold State.setUserReg; split <;> rfl
@[simp] theorem State.setUserReg_sched : (s.setUserReg i v).sched = s.sched := by unfold State.setUserReg; split <;> rfl
@[simp] theorem State.setUserReg_costCode : (s.setUserReg i v).costCode = s.costCode := by unfold State.setUserReg; split <;> rfl
@[simp] theorem State.setUserReg_costData : (s.setUserReg i v).costData = s.costData := by unfold State.setUserReg; split <;> rfl
@[simp] theorem State.setUserReg_ioEvents : (s.setUserReg i v).ioEvents = s.ioEvents := by unfold State.setUserReg; split <;> rfl
@[simp] theorem State.setUserReg_fault : (s.setUserReg i v).fault = s.fault := by unfold State.setUserReg; split <;> rfl
@[simp] theorem State.setUserReg_cfg : (s.setUserReg i v).cfg = s.cfg := by unfold State.setUserReg; split <;> rfl
@[simp] theorem State.setUserReg_fiqLine : (s.setUserReg i v).fiqLine = s.fiqLine := by unfold State.setUserReg; split <;> rfl
@[simp] theorem State.setUserReg_draws : (s.setUserReg i v).draws = s.draws := by unfold State.setUserReg; split <;> rfl
end setUserRegFields

section putRegFields
variable (s : State) (u : Bool) (i : Reg) (v : Word)
@[simp] theorem State.putReg_cpsr : (s.putReg u i v).cpsr = s.cpsr := by cases u <;> simp [State.putReg]
@[simp] theorem State.putReg_spsr : (s.putReg u i v).spsr = s.spsr := by cases u <;> simp [State.putReg]
@[simp] theorem State.putReg_mem : (s.putReg u i v).mem = s.mem := by cases u <;> simp [State.putReg]
@[simp] theorem State.putReg_cycles : (s.putReg u i v).cycles = s.cycles := by cases u <;> simp [State.putReg]
@[simp] theorem State.putReg_sched : (s.putReg u i v).sched = s.sched := by cases u <;> simp [State.putReg]
@[simp] theorem State.putReg_costCode : (s.putReg u i v).costCode = s.costCode := by cases u <;> simp [State.putReg]
@[simp] theorem State.putReg_costData : (s.putReg u i v).costData = s.costData := by cases u <;> simp [State.putReg]
@[simp] theorem State.putReg_ioEvents : (s.putReg u i v).ioEvents = s.ioEvents := by cases u <;> simp [State.putReg]
@[simp] theorem State.putReg_fault : (s.putReg u i v).fault = s.fault := by cases u <;> simp [State.putReg]
@[simp] theorem State.putReg_cfg : (s.putReg u i v).cfg = s.cfg := by cases u <;> simp [State.putReg]
@[simp] theorem State.putReg_fiqLine : (s.putReg u i v).fiqLine = s.fiqLine := by cases u <;> simp [State.putReg]
@[simp] theorem State.putReg_draws : (s.putReg u i v).draws = s.draws := by cases u <;> simp [State.putReg]
end putRegFields

section writeBackFields
variable (s : State) (b : Bool) (i : Reg) (v : Word)
@[simp] theorem State.writeBack_cpsr : (s.writeBack b i v).cpsr = s.cpsr := by cases b <;> simp [State.writeBack]
@[simp] theorem State.writeBack_spsr : (s.writeBack b i v).spsr = s.spsr := by cases b <;> simp [State.writeBack]
@[simp] theorem State.writeBack_mem : (s.writeBack b i v).mem = s.mem := by cases b <;> simp [State.writeBack]
@[simp] theorem State.writeBack_cycles : (s.writeBack b i v).cycles = s.cycles := by cases b <;> simp [State.writeBack]
@[simp] theorem State.writeBack_sched : (s.writeBack b i v).sched = s.sched := by cases b <;> simp [State.writeBack]
@[simp] theorem State.writeBack_costCode : (s.writeBack b i v).costCode = s.costCode := by cases b <;> simp [State.writeBack]
@[simp] theorem State.writeBack_costData : (s.writeBack b i v).costData = s.costData := by cases b <;> simp [State.writeBack]
@[simp] theorem State.writeBack_ioEvents : (s.writeBack b i v).ioEvents = s.ioEvents := by cases b <;> simp [State.writeBack]
@[simp] theorem State.writeBack_fault : (s.writeBack b i v).fault = s.fault := by cases b <;> simp [State.writeBack]
@[simp] theorem State.writeBack_cfg : (s.writeBack b i v).cfg = s.cfg := by cases b <;> simp [State.writeBack]
@[simp] theorem State.writeBack_fiqLine : (s.writeBack b i v).fiqLine = s.fiqLine := by cases b <;> simp [State.writeBack]
@[simp] theorem State.writeBack_draws : (s.writeBack b i v).draws = s.draws := by cases b <;> simp [State.writeBack]
end writeBackFields

section hookFields
variable (s : State) (w : Width) (a v : Word)
@[simp] theorem State.hook_regs : (s.hook w a v).regs = s.regs := by unfold State.hook; split <;> rfl
@[simp] theorem State.hook_cpsr : (s.hook w a v).cpsr = s.cpsr := by unfold State.hook; split <;> rfl
@[simp] theorem State.hook_spsr : (s.hook w a v).spsr = s.spsr := by unfold State.hook; split <;> rfl
@[simp] theorem State.hook_mem : (s.hook w a v).mem = s.mem := by unfold State.hook; split <;> rfl
@[simp] theorem State.hook_cycles : (s.hook w a v).cycles = s.cycles := by unfold State.hook; split <;> rfl
@[simp] theorem State.hook_sched : (s.hook w a v).sched = s.sched := by unfold State.hook; split <;> rfl
@[simp] theorem State.hook_costCode : (s.hook w a v).costCode = s.costCode := by unfold State.hook; split <;> rfl
@[simp] theorem State.hook_costData : (s.hook w a v).costData = s.costData := by unfold State.hook; split <;> rfl
@[simp] theorem State.hook_fault : (s.hook w a v).fault = s.fault := by unfold State.hook; split <;> rfl
@[simp] theorem State.hook_cfg : (s.hook w a v).cfg = s.cfg := by unfold State.hook; split <;> rfl
@[simp] theorem State.hook_fiqLine : (s.hook w a v).fiqLine = s.fiqLine := by unfold State.hook; split <;> rfl
@[simp] theorem State.hook_draws : (s.hook w a v).draws = s.draws := by unfold State.hook; split <;> rfl
end hookFields

section write8Fields
variable (s : State) (a : Word) (v : Byte)
@[simp] theorem State.write8_regs : (s.write8 a v).regs = s.regs := by simp [State.write8]
@[simp] theorem State.write8_cpsr : (s.write8 a v).cpsr = s.cpsr := by simp [State.write8]
@[simp] theorem State.write8_spsr : (s.write8 a v).spsr = s.spsr := by simp [State.write8]
@[simp] theorem State.write8_mem : (s.write8 a v).mem = writeByte s.cfg s.mem a v := by simp [State.write8]
@[simp] theorem State.write8_cycles : (s.write8 a v).cycles = s.cycles := by simp [State.write8]
@[simp] theorem State.write8_sched : (s.write8 a v).sched = s.sched := by simp [State.write8]
@[simp] theorem State.write8_costCode : (s.write8 a v).costCode = s.costCode := by simp [State.write8]
@[simp] theorem State.write8_costData : (s.write8 a v).costData = s.costData := by simp [State.write8]
@[simp] theorem State.write8_fault : (s.write8 a v).fault = s.fault := by simp [State.write8]
@[simp] theorem State.write8_cfg : (s.write8 a v).cfg = s.cfg := by simp [State.write8]
@[simp] theorem State.write8_fiqLine : (s.write8 a v).fiqLine = s.fiqLine := by simp [State.write8]
@[simp] theorem State.write8_draws : (s.write8 a v).draws = s.draws := by simp [State.write8]
end write8Fields

section write16Fields
variable (s : State) (a : Word) (v : Half)
@[simp] theorem State.write16_regs : (s.write16 a v).regs = s.regs := by simp [State.write16]
@[simp] theorem State.write16_cpsr : (s.write16 a v).cpsr = s.cpsr := by simp [State.write16]
@[simp] theorem State.write16_spsr : (s.write16 a v).spsr = s.spsr := by simp [State.write16]
@[simp] theorem State.write16_mem : (s.write16 a v).mem = writeHalf s.cfg s.mem a v := by simp [State.write16]
@[simp] theorem State.write16_cycles : (s.write16 a v).cycles = s.cycles := by simp [State.write16]
@[simp] theorem State.write16_sched : (s.write16 a v).sched = s.sched := by simp [State.write16]
@[simp] theorem State.write16_costCode : (s.write16 a v).costCode = s.costCode := by simp [State.write16]
@[simp] theorem State.write16_costData : (s.write16 a v).costData = s.costData := by simp [State.write16]
@[simp] theorem State.write16_fault : (s.write16 a v).fault = s.fault := by simp [State.write16]
@[simp] theorem State.write16_cfg : (s.write16 a v).cfg = s.cfg := by simp [State.write16]
@[simp] theorem State.write16_fiqLine : (s.write16 a v).fiqLine = s.fiqLine := by simp [State.write16]
@[simp] theorem State.write16_draws : (s.write16 a v).draws = s.draws := by simp [State.write16]
end write16Fields

section write32Fields
variable (s : State) (a v : Word)
@[simp] theorem State.write32_regs : (s.write32 a v).regs = s.regs := by simp [State.write32]
@[simp] theorem State.write32_cpsr : (s.write32 a v).cpsr = s.cpsr := by simp [State.write32]
@[simp] theorem State.write32_spsr : (s.write32 a v).spsr = s.spsr := by simp [State.write32]
@[simp] theorem State.write32_mem : (s.write32 a v).mem = writeWord s.cfg s.mem a v := by simp [State.write32]
@[simp] theorem State.write32_cycles : (s.write32 a v).cycles = s.cycles := by simp [State.write32]
@[simp] theorem State.write32_sched : (s.write32 a v).sched = s.sched := by simp [State.write32]
@[simp] theorem State.write32_costCode : (s.write32 a v).costCode = s.costCode := by simp [State.write32]
@[simp] theorem State.write32_costData : (s.write32 a v).costData = s.costData := by simp [State.write32]
@[simp] theorem State.write32_fault : (s.write32 a v).fault = s.fault := by simp [State.write32]
@[simp] theorem State.write32_cfg : (s.write32 a v).cfg = s.cfg := by simp [State.write32]
@[simp] theorem State.write32_fiqLine : (s.write32 a v).fiqLine = s.fiqLine := by simp [State.write32]
@[simp] theorem State.write32_draws : (s.write32 a v).draws = s.draws := by simp [State.write32]
end write32Fields

section storeValueFields
variable (s : State) (k : StoreKind) (a v : Word)
@[simp] theorem State.storeValue_regs : (s.storeValue k a v).regs = s.regs := by cases k <;> simp [State.storeValue]
@[simp] theorem State.storeValue_cpsr : (s.storeValue k a v).cpsr = s.cpsr := by cases k <;> simp [State.storeValue]
@[simp] theorem State.storeValue_spsr : (s.storeValue k a v).spsr = s.spsr := by cases k <;> simp [State.storeValue]
@[simp] theorem State.storeValue_cycles : (s.storeValue k a v).cycles = s.cycles := by cases k <;> simp [State.storeValue]
@[simp] theorem State.storeValue_sched : (s.storeValue k a v).sched = s.sched := by cases k <;> simp [State.storeValue]
@[simp] theorem State.storeValue_costCode : (s.storeValue k a v).costCode = s.costCode := by cases k <;> simp [State.storeValue]
@[simp] theorem State.storeValue_costData : (s.storeValue k a v).costData = s.costData := by cases k <;> simp [State.storeValue]
@[simp] theorem State.storeValue_fault : (s.storeValue k a v).fault = s.fault := by cases k <;> simp [State.storeValue]
@[simp] theorem State.storeValue_cfg : (s.storeValue k a v).cfg = s.cfg := by cases k <;> simp [State.storeValue]
@[simp] theorem State.storeValue_fiqLine : (s.storeValue k a v).fiqLine = s.fiqLine := by cases k <;> simp [State.storeValue]
@[simp] theorem State.storeValue_draws : (s.storeValue k a v).draws = s.draws := by cases k <;> simp [State.storeValue]
end storeValueFields

section enterFields
variable (s : State) (e : Exc) (r : Word)
@[simp] theorem State.enter_regs : (s.enter e r).regs = (s.regs.set (phys e.mode 14) r).set .r15 e.vector := rfl
@[simp] theorem State.enter_cpsr : (s.enter e r).cpsr = e.cpsr s.cpsr := rfl
@[simp] theorem State.enter_spsr : (s.enter e r).spsr = s.spsr.set e.mode s.cpsr := rfl
@[simp] theorem State.enter_mem : (s.enter e r).mem = s.mem := rfl
@[simp] theorem State.enter_cycles : (s.enter e r).cycles = s.cycles := rfl
@[simp] theorem State.enter_sched : (s.enter e r).sched = s.sched := rfl
@[simp] theorem State.enter_costCode : (s.enter e r).costCode = s.costCode := rfl
@[simp] theorem State.enter_costData : (s.enter e r).costData = s.costData := rfl
@[simp] theorem State.enter_ioEvents : (s.enter e r).ioEvents = s.ioEvents := rfl
@[simp] theorem State.enter_fault : (s.enter e r).fault = s.fault := rfl
@[simp] theorem State.enter_cfg : (s.enter e r).cfg = s.cfg := rfl
@[simp] theorem State.enter_fiqLine : (s.enter e r).fiqLine = s.fiqLine := rfl
@[simp] theorem State.enter_draws : (s.enter e r).draws = s.draws := rfl
end enterFields

section takeInputsFields
variable (s : State)
@[simp] theorem State.takeInputs_regs : (s.takeInputs).regs = s.regs := rfl
@[simp] theorem State.takeInputs_cpsr : (s.takeInputs).cpsr = s.cpsr := rfl
@[simp] theorem State.takeInputs_spsr : (s.takeInputs).spsr = s.spsr := rfl
@[simp] theorem State.takeInputs_mem : (s.takeInputs).mem = s.mem := rfl
@[simp] theorem State.takeInputs_cycles : (s.takeInputs).cycles = s.cycles := rfl
@[simp] theorem State.takeInputs_sched : (s.takeInputs).sched = s.sched := rfl
@[simp] theorem State.takeInputs_costCode : (s.takeInputs).costCode = s.costCode := rfl
@[simp] theorem State.takeInputs_costData : (s.takeInputs).costData = s.costData := rfl
@[simp] theorem State.takeInputs_ioEvents : (s.takeInputs).ioEvents = s.ioEvents := rfl
@[simp] theorem State.takeInputs_fault : (s.takeInputs).fault = s.fault := rfl
@[simp] theorem State.takeInputs_cfg : (s.takeInputs).cfg = s.cfg := rfl
@[simp] theorem State.takeInputs_fiqLine : (s.takeInputs).fiqLine = s.fiqLine.tail := rfl
@[simp] theorem State.takeInputs_draws : (s.takeInputs).draws = s.draws + 1 := rfl
end takeInputsFields

/-! ## Register writes -/

theorem State.setReg_regs_of_ne (s : State) {i : Reg} (v : Word) (h : i ≠ 15) :
    (s.setReg i v).regs = s.regs.set (phys s.mode i) v := by
  simp [State.setReg, h]
@[simp] theorem State.setReg_15 (s : State) (v : Word) : s.setReg 15 v = s.branch v := rfl

theorem State.setReg_eq (s : State) {i : Reg} (v : Word) (h : i ≠ 15) :
    s.setReg i v = { s with regs := s.regs.set (phys s.mode i) v } := by
  simp [State.setReg, h]

theorem State.setUserReg_eq (s : State) {i : Reg} (v : Word) (h : i ≠ 15) :
    s.setUserReg i v = { s with regs := s.regs.set (phys .usr i) v } := by
  simp [State.setUserReg, h]

theorem State.setReg_pc_of_ne (s : State) {i : Reg} (v : Word) (h : i ≠ 15) : (s.setReg i v).pc = s.pc := by
  rw [State.setReg_eq s v h]
  exact Regs.set_r15_of_ne _ _ (fun e => h ((phys_eq_r15 _ _).1 e))

theorem State.setUserReg_pc_of_ne (s : State) {i : Reg} (v : Word) (h : i ≠ 15) : (s.setUserReg i v).pc = s.pc := by
  rw [State.setUserReg_eq s v h]
  exact Regs.set_r15_of_ne _ _ (fun e => h ((phys_eq_r15 _ _).1 e))

/-! ## What is read from the fields -/

theorem State.mode_congr {s t : State} (h : t.cpsr = s.cpsr) : t.mode = s.mode := by simp [State.mode, h]

theorem State.thumb_congr {s t : State} (h : t.cpsr = s.cpsr) : t.thumb = s.thumb := by simp [State.thumb, h]

theorem State.ilen_congr {s t : State} (h : t.cpsr = s.cpsr) : t.ilen = s.ilen := by simp [State.ilen, State.thumb, h]

theorem State.fw_congr {s t : State} (h : t.cpsr = s.cpsr) : t.fw = s.fw := by simp [State.fw, State.thumb, h]

theorem State.costOf_congr {s t : State} (hc : t.costCode = s.costCode) (hd : t.costData = s.costData) (k : Kind) (q : Seq) (w : Width)
    (a : Word) : t.costOf k q w a = s.costOf k q w a := by
  cases k <;> simp [State.costOf, State.costs, hc, hd]

theorem State.read8_congr {s t : State} (hc : t.cfg = s.cfg) (hm : t.mem = s.mem) (a : Word) : t.read8 a = s.read8 a := by
  simp [State.read8, hc, hm]
@[simp] theorem State.fetched_mode (s : State) : s.fetched.mode = s.mode := rfl
@[simp] theorem State.fetched_thumb (s : State) : s.fetched.thumb = s.thumb := rfl
@[simp] theorem State.fetched_pc (s : State) : s.fetched.pc = s.pc + s.ilen := rfl
@[simp] theorem State.advance_mode (s : State) : s.advance.mode = s.mode := rfl
@[simp] theorem State.advance_thumb (s : State) : s.advance.thumb = s.thumb := rfl
@[simp] theorem State.advance_pc (s : State) : s.advance.pc = s.pc + s.ilen := rfl
@[simp] theorem State.internal_mode (s : State) (n : Nat) : (s.internal n).mode = s.mode := rfl
@[simp] theorem State.internal_thumb (s : State) (n : Nat) : (s.internal n).thumb = s.thumb := rfl
@[simp] theorem State.internal_pc (s : State) (n : Nat) : (s.internal n).pc = s.pc := rfl
@[simp] theorem State.charge_mode (s : State) (k : Kind) (q : Seq) (w : Width) (a : Word) : (s.charge k q w a).mode = s.mode := rfl
@[simp] theorem State.charge_thumb (s : State) (k : Kind) (q : Seq) (w : Width) (a : Word) : (s.charge k q w a).thumb = s.thumb := rfl
@[simp] theorem State.charge_pc (s : State) (k : Kind) (q : Seq) (w : Width) (a : Word) : (s.charge k q w a).pc = s.pc := rfl
@[simp] theorem State.charge_ilen (s : State) (k : Kind) (q : Seq) (w : Width) (a : Word) : (s.charge k q w a).ilen = s.ilen := rfl
@[simp] theorem State.charge_fw (s : State) (k : Kind) (q : Seq) (w : Width) (a : Word) : (s.charge k q w a).fw = s.fw := rfl
@[simp] theorem State.refill_pc (s : State) : s.refill.pc = s.pc := rfl
@[simp] theorem State.refill_thumb (s : State) : s.refill.thumb = s.thumb := rfl
@[simp] theorem State.refill_mode (s : State) : s.refill.mode = s.mode := rfl
@[simp] theorem State.nnext_pc (s : State) : s.nnext.pc = s.pc := rfl
@[simp] theorem State.setPc_pc (s : State) (v : Word) : (s.setPc v).pc = v := rfl
@[simp] theorem State.branch_pc (s : State) (v : Word) : (s.branch v).pc = alignPc s.thumb v := rfl
@[simp] theorem State.branch_thumb (s : State) (v : Word) : (s.branch v).thumb = s.thumb := rfl

/-! ## The two counters advance together (R52) -/

theorem State.internal_sched_cycles (s : State) (n : Nat) : (s.internal n).sched - s.sched = (s.internal n).cycles - s.cycles := by
  simp
end Sys2Proof.Machine
end

