-- ==== Sys2Proof/Laws/Memory.lean ====
section
/-! SUPPORT. Memory: every operation keeps its canonical form, reads follow writes, and regions do not overlap. -/

namespace Sys2Proof.Machine

/-! ## The canonical form -/

theorem Memory.wfFrom_mono : ∀ {m : Memory} {lo lo' : Nat}, m.wfFrom lo = true → lo' ≤ lo → m.wfFrom lo' = true
  | [], _, _, _, _ => rfl
  | (a, b) :: m, lo, lo', h, hle => by
    simp only [Memory.wfFrom, Bool.and_eq_true, decide_eq_true_eq] at h ⊢
    exact ⟨⟨by omega, h.1.2⟩, h.2⟩

theorem Memory.get_below : ∀ {m : Memory} {lo k : Nat}, m.wfFrom lo = true → k < lo → m.get k = unlisted
  | [], _, _, _, _ => rfl
  | (a, b) :: m, lo, k, h, hlt => by
    simp only [Memory.wfFrom, Bool.and_eq_true, decide_eq_true_eq] at h
    have : a ≠ k := by omega
    simp only [Memory.get, this, if_false]
    exact Memory.get_below h.2 (by omega)

theorem Memory.set_wfFrom : ∀ {m : Memory} {lo : Nat} (k : Nat) (v : Byte), m.wfFrom lo = true → lo ≤ k → (m.set k v).wfFrom lo = true
  | [], lo, k, v, _, hk => by
    by_cases hv : v = unlisted <;> simp [Memory.set, Memory.wfFrom, hv, hk]
  | (a, b) :: m, lo, k, v, h, hk => by
    have h' := h
    simp only [Memory.wfFrom, Bool.and_eq_true, decide_eq_true_eq] at h
    unfold Memory.set
    split
    · split
      · exact h'
      · simp only [Memory.wfFrom, Bool.and_eq_true, decide_eq_true_eq]
        exact ⟨⟨hk, by assumption⟩, ⟨by omega, h.1.2⟩, h.2⟩
    · split
      · split
        · exact Memory.wfFrom_mono h.2 (by omega)
        · simp only [Memory.wfFrom, Bool.and_eq_true, decide_eq_true_eq]
          exact ⟨⟨hk, by assumption⟩, Memory.wfFrom_mono h.2 (by omega)⟩
      · simp only [Memory.wfFrom, Bool.and_eq_true, decide_eq_true_eq]
        exact ⟨h.1, Memory.set_wfFrom k v h.2 (by omega)⟩

theorem Memory.get_set_from : ∀ {m : Memory} {lo : Nat} (k : Nat) (v : Byte) (j : Nat), m.wfFrom lo = true →
    (m.set k v).get j = if j = k then v else m.get j
  | [], lo, k, v, j, _ => by
    by_cases hj : j = k
    · subst hj; by_cases hv : v = unlisted <;> simp [Memory.set, Memory.get, hv]
    · by_cases hv : v = unlisted <;> simp [Memory.set, Memory.get, hv, hj, Ne.symm hj]
  | (a, b) :: m, lo, k, v, j, h => by
    simp only [Memory.wfFrom, Bool.and_eq_true, decide_eq_true_eq] at h
    have below : ∀ i, i < a + 1 → Memory.get m i = unlisted := fun i hi => Memory.get_below h.2 hi
    unfold Memory.set
    split
    · rename_i hka
      split
      · rename_i hv
        by_cases hj : j = k
        · subst hj
          have : a ≠ j := by omega
          simp [Memory.get, this, hv, below j (by omega)]
        · simp [hj]
      · by_cases hj : j = k
        · subst hj; simp [Memory.get]
        · simp [Memory.get, hj, Ne.symm hj]
    · split
      · rename_i hka
        subst hka
        split
        · rename_i hv
          by_cases hj : j = k
          · subst hj; simp [hv, below j (by omega)]
          · simp [Memory.get, hj, Ne.symm hj]
        · by_cases hj : j = k
          · subst hj; simp [Memory.get]
          · simp [Memory.get, hj, Ne.symm hj]
      · rename_i hlt hne
        by_cases hja : a = j
        · subst hja
          have : a ≠ k := fun e => hne e.symm
          simp [Memory.get, this]
        · simp only [Memory.get, hja, if_false]
          exact Memory.get_set_from k v j h.2

theorem Memory.set_wf {m : Memory} (k : Nat) (v : Byte) (h : m.wf = true) : (m.set k v).wf = true :=
  Memory.set_wfFrom k v h (Nat.zero_le k)

/-- A read after a write of the backing store. -/
theorem Memory.get_set {m : Memory} (k : Nat) (v : Byte) (j : Nat) (h : m.wf = true) :
    (m.set k v).get j = if j = k then v else m.get j :=
  Memory.get_set_from k v j h

theorem Memory.store_wf : ∀ (bs : List Byte) {m : Memory} (k : Nat), m.wf = true → (m.store k bs).wf = true
  | [], _, _, h => h
  | _ :: bs, _, k, h => Memory.store_wf bs (k + 1) (Memory.set_wf k _ h)

theorem imageCells_wfFrom : ∀ (bs : List Byte) (k : Nat), (imageCells k bs).wfFrom k = true
  | [], _ => rfl
  | b :: bs, k => by
    unfold imageCells
    split
    · exact Memory.wfFrom_mono (imageCells_wfFrom bs (k + 1)) (by omega)
    · rename_i hb
      simp only [Memory.wfFrom, Bool.and_eq_true, decide_eq_true_eq]
      exact ⟨⟨Nat.le_refl k, hb⟩, imageCells_wfFrom bs (k + 1)⟩

/-! ## The writes -/

theorem ioWriteByte_wf {m : Memory} (l : Nat) (b : Byte) (h : m.wf = true) : (ioWriteByte m l b).wf = true := by
  unfold ioWriteByte
  split <;> exact Memory.set_wf _ _ h

theorem writeByte_wf (c : Config) {m : Memory} (a : Word) (b : Byte) (h : m.wf = true) : (writeByte c m a b).wf = true := by
  unfold writeByte
  split
  · exact ioWriteByte_wf _ _ h
  · split
    · exact Memory.set_wf _ _ h
    · exact h
  · exact h
  · exact h

theorem writeHalf_wf (c : Config) {m : Memory} (a : Word) (v : Half) (h : m.wf = true) : (writeHalf c m a v).wf = true :=
  writeByte_wf c _ _ (writeByte_wf c _ _ h)

theorem writeWord_wf (c : Config) {m : Memory} (a v : Word) (h : m.wf = true) : (writeWord c m a v).wf = true :=
  writeByte_wf c _ _ (writeByte_wf c _ _ (writeByte_wf c _ _ (writeByte_wf c _ _ h)))

theorem State.storeValue_wf (s : State) (k : StoreKind) (a v : Word) (h : s.mem.wf = true) : (s.storeValue k a v).mem.wf = true := by
  cases k <;> simp only [State.storeValue, State.write8_mem, State.write16_mem, State.write32_mem]
  · exact writeWord_wf _ _ _ h
  · exact writeByte_wf _ _ _ h
  · exact writeHalf_wf _ _ _ h

theorem State.storeWords_wf : ∀ (ps : List (Word × Word)) (s : State), s.mem.wf = true → (s.storeWords ps).mem.wf = true
  | [], _, h => h
  | (a, v) :: ps, s, h => State.storeWords_wf ps _ (by simpa using writeWord_wf s.cfg a v h)

/-! ## The transform -/

/-- How far a region's local indices reach, whatever the configuration. -/
def Region.span : Region → Nat
  | .bios => 0x4000
  | .ewram => 0x40000
  | .iwram => 0x8000
  | .io => 0x1000000
  | .pal => 0x400
  | .vram => 0x18000
  | .oam => 0x400
  | .rom => 0x2000000
  | .sram => 0x10000

theorem transform_span {c : Config} {a : Word} {r : Region} {l : Nat} (h : transform c a = .mapped r l) : l < r.span := by
  have ha := a.isLt
  unfold transform at h
  simp only at h
  split at h <;> first
    | (split at h <;> simp only [Loc.mapped.injEq, reduceCtorEq] at h <;> obtain ⟨rfl, rfl⟩ := h <;> simp only [Region.span] <;> omega)
    | (simp only [Loc.mapped.injEq, reduceCtorEq] at h <;> obtain ⟨rfl, rfl⟩ := h <;> simp only [Region.span] <;> first | omega | skip)
  unfold vramLocal
  simp only
  split
  · cases c.vramTail <;> simp only <;> omega
  · omega

/-- Two mapped addresses share a backing byte only as the same local index of one region. -/
theorem backing_inj {c : Config} {a b : Word} {r r' : Region} {l l' : Nat} (ha : transform c a = .mapped r l)
    (hb : transform c b = .mapped r' l') (h : r.base + l = r'.base + l') : r = r' ∧ l = l' := by
  have h1 := transform_span ha
  have h2 := transform_span hb
  cases r <;> cases r' <;> simp only [Region.span, Region.base] at h1 h2 h <;> first
    | exact ⟨rfl, by omega⟩
    | (exfalso; omega)

/-- Addresses with one transform read alike. -/
theorem readByte_of_transform {c : Config} (m : Memory) {a b : Word} (h : transform c a = transform c b) :
    readByte c m a = readByte c m b := by
  simp only [readByte, h]

/-- A write leaves every byte of another backing place as it was. -/
theorem readByte_writeByte_ne {c : Config} {m : Memory} {a b : Word} (v : Byte) (hm : m.wf = true)
    (h : transform c b ≠ transform c a) : readByte c (writeByte c m a v) b = readByte c m b := by
  have key : ∀ (r r' : Region) (l l' : Nat) (x : Byte), transform c a = .mapped r l → transform c b = .mapped r' l' →
      (m.set (r.base + l) x).get (r'.base + l') = m.get (r'.base + l') := by
    intro r r' l l' x ha hb
    rw [Memory.get_set _ _ _ hm, if_neg]
    intro e
    obtain ⟨rfl, rfl⟩ := backing_inj hb ha e
    exact h (hb.trans ha.symm)
  unfold readByte
  cases hb : transform c b with
  | mapped r' l' =>
    simp only
    unfold writeByte
    cases ha : transform c a with
    | mapped r l =>
      cases r <;> simp only [Region.writable, if_true, Bool.false_eq_true, if_false, ioWriteByte] <;> try rfl
      all_goals first
        | exact key _ _ _ _ _ ha hb
        | (split <;> exact key .io _ _ _ _ ha hb)
    | unmapped => rfl
    | outOfWindow => rfl
  | unmapped => rfl
  | outOfWindow => rfl

/-- What a byte reads as after it is written (R88, R89, R98): the old byte in BIOS and ROM, the IF quirk, otherwise the byte written. -/
theorem readByte_writeByte_same {c : Config} {m : Memory} {a : Word} {r : Region} {l : Nat} (v : Byte) (hm : m.wf = true)
    (h : transform c a = .mapped r l) :
    readByte c (writeByte c m a v) a =
      if r.writable = false then readByte c m a
      else if r = .io ∧ (l = 0x202 ∨ l = 0x203) then readByte c m a &&& ~~~v else v := by
  unfold readByte writeByte
  simp only [h]
  cases r <;> simp only [Region.writable, if_true, Bool.false_eq_true, if_false, reduceCtorEq, false_and, true_and, Bool.true_eq_false]
  all_goals first
    | simp [Memory.get_set _ _ _ hm]
    | (unfold ioWriteByte; split <;> simp [Memory.get_set _ _ _ hm])

end Sys2Proof.Machine
end

