-- ==== Sys2Proof/Laws/Ops.lean ====
section
/-! SUPPORT. Once for each shared operation, what it can answer: the gates, the status word's bits, exception entry and return, loads, stores
and block transfers. Provers cite these and do not unfold the operations. -/

namespace Sys2Proof.Machine

/-! ## Stops (R580) -/

@[simp] theorem FaultName.fault_stuck (f : FaultName) (t : State) : (f.fault t).stuck = t := by cases f <;> rfl

@[simp] theorem State.stop_ne_next (s t : State) (f : FaultName) : s.stop f ≠ .next t := nofun

/-- What a stop leaves: the state it comes in, marked. -/
theorem State.stop_stuck {s : State} {f : FaultName} {e : Fault} (h : s.stop f = .fault e) : e.stuck = { s with fault := some f } := by
  cases h
  exact FaultName.fault_stuck ..

@[simp] theorem State.orStop_ok (s t : State) : s.orStop (.ok t) = .next t := rfl

@[simp] theorem State.orStop_error (s : State) (f : FaultName) : s.orStop (.error f) = s.stop f := rfl

/-! ## The gates -/

theorem State.guarded_next {s t : State} {cs : List (Bool × Unpred)} {k : Result} (h : s.guarded cs k = .next t) : k = .next t := by
  unfold State.guarded at h
  split at h
  · cases h
  · exact h

/-- Under `arm7tdmi` no case stops an instruction. -/
theorem State.guarded_arm7tdmi {s : State} (h : s.cfg.unpredictable = .arm7tdmi) (cs : List (Bool × Unpred)) (k : Result) :
    s.guarded cs k = k := by
  simp [State.guarded, h]

/-- Where no case holds nothing stops an instruction. -/
theorem State.guarded_none {s : State} {cs : List (Bool × Unpred)} (h : firstCase cs = none) (k : Result) : s.guarded cs k = k := by
  unfold State.guarded
  rw [h]
  cases s.cfg.unpredictable <;> rfl

/-- Under `fault` the first case that holds stops it. -/
theorem State.guarded_fault {s : State} {cs : List (Bool × Unpred)} {u : Unpred} (h : s.cfg.unpredictable = .fault)
    (hu : firstCase cs = some u) (k : Result) : s.guarded cs k = s.stop (.unpredictable u) := by
  simp [State.guarded, h, hu]

theorem State.guarded_cases (s : State) (cs : List (Bool × Unpred)) (k : Result) :
    s.guarded cs k = k ∨ ∃ u, s.guarded cs k = s.stop (.unpredictable u) := by
  unfold State.guarded
  split
  · exact .inr ⟨_, rfl⟩
  · exact .inl rfl

theorem firstCase_none {cs : List (Bool × Unpred)} (h : ∀ x ∈ cs, x.1 = false) : firstCase cs = none := by
  induction cs with
  | nil => rfl
  | cons x l ih =>
    obtain ⟨b, u⟩ := x
    have hb : b = false := h (b, u) (by simp)
    simp only [firstCase, hb, Bool.false_eq_true, if_false]
    exact ih fun y hy => h y (by simp [hy])

theorem State.gate_passes {s : State} {c : Cond} (h : s.passes c = true) (k : Result) : s.gate c k = k := by
  simp [State.gate, h]

theorem State.gate_skips {s : State} {c : Cond} (h : s.passes c = false) (k : Result) : s.gate c k = .next s.fetched := by
  simp [State.gate, h]

theorem State.gate_next {s t : State} {c : Cond} {k : Result} (h : s.gate c k = .next t) :
    (s.passes c = false ∧ t = s.fetched) ∨ (s.passes c = true ∧ k = .next t) := by
  unfold State.gate at h
  split at h
  · rename_i hp; exact .inr ⟨hp, h⟩
  · rename_i hp; cases h; exact .inl ⟨by simpa using hp, rfl⟩

theorem State.access_next {s t : State} {a : Word} {w : Width} {k : Result} (h : s.access a w k = .next t) : k = .next t := by
  unfold State.access at h
  split at h
  · cases h
  · exact h

theorem State.access_ok {s : State} {a : Word} {w : Width} (h : accessFaults s.cfg a w = false) (k : Result) : s.access a w k = k := by
  simp [State.access, h]

/-- Under `discard` no access faults. -/
theorem accessFaults_discard {c : Config} (h : c.oow = .discard) (a : Word) (w : Width) : accessFaults c a w = false := by
  simp [accessFaults, h]

theorem blockFaults_discard {c : Config} (h : c.oow = .discard) (ps : List (Reg × Word)) : blockFaults c ps = false := by
  unfold blockFaults
  rw [List.any_eq_false]
  intro x _
  simp [accessFaults_discard h]

theorem State.accessBlock_next {s t : State} {ps : List (Reg × Word)} {u : List (Reg × Word) → State} {k : Result}
    (h : s.accessBlock ps u k = .next t) : k = .next t := by
  unfold State.accessBlock at h
  split at h
  · cases h
  · exact h

theorem State.accessBlock_ok {s : State} {ps : List (Reg × Word)} (h : blockFaults s.cfg ps = false) (u : List (Reg × Word) → State)
    (k : Result) : s.accessBlock ps u k = k := by
  simp [State.accessBlock, h]

/-- A block that reaches above the window stops in the state the words before leave. -/
theorem State.accessBlock_above {s : State} {ps : List (Reg × Word)} (h : blockFaults s.cfg ps = true) (u : List (Reg × Word) → State)
    (k : Result) : s.accessBlock ps u k = (u (blockReached s.cfg ps)).stop .ioOutOfWindow := by
  simp [State.accessBlock, h]

/-! ## Status words -/

theorem putBit_getLsbD (w : Word) (k : Nat) (b : Bool) (j : Nat) (hk : k < 32) :
    (putBit w k b).getLsbD j = if j = k then b else w.getLsbD j := by
  by_cases hj : j < 32
  · by_cases hjk : j = k
    · subst hjk
      cases b <;> simp [putBit, hj]
    · cases b <;> simp [putBit, hj, hjk] <;> omega
  · have : j ≠ k := by omega
    simp only [this, if_false]
    rw [BitVec.getLsbD_of_ge _ _ (by omega), BitVec.getLsbD_of_ge _ _ (by omega)]

/-- Every bit of a word whose flags are replaced. -/
theorem withFlags_getLsbD (w : Word) (n z c v : Bool) (j : Nat) :
    (withFlags w n z c v).getLsbD j =
      if j = 28 then v else if j = 29 then c else if j = 30 then z else if j = 31 then n else w.getLsbD j := by
  simp only [withFlags, putBit_getLsbD _ _ _ _ (by decide : 28 < 32), putBit_getLsbD _ _ _ _ (by decide : 29 < 32),
    putBit_getLsbD _ _ _ _ (by decide : 30 < 32), putBit_getLsbD _ _ _ _ (by decide : 31 < 32)]

theorem modeField_ext {x y : Word} (h : ∀ j, j < 5 → x.getLsbD j = y.getLsbD j) : modeField x = modeField y := by
  unfold modeField
  apply BitVec.eq_of_getLsbD_eq
  intro j hj
  simp only [BitVec.getLsbD_extractLsb', hj, decide_true, Bool.true_and, Nat.zero_add]
  exact h j hj

@[simp] theorem modeField_withFlags (w : Word) (n z c v : Bool) : modeField (withFlags w n z c v) = modeField w := by
  apply modeField_ext
  intro j hj
  rw [withFlags_getLsbD]
  have : j ≠ 28 ∧ j ≠ 29 ∧ j ≠ 30 ∧ j ≠ 31 := by omega
  simp [this.1, this.2.1, this.2.2.1, this.2.2.2]

theorem modeField_putBit (w : Word) (k : Nat) (b : Bool) (hk : k < 32) (h5 : 5 ≤ k) : modeField (putBit w k b) = modeField w := by
  apply modeField_ext
  intro j hj
  rw [putBit_getLsbD _ _ _ _ hk, if_neg (by omega)]

@[simp] theorem Mode.ofBits_bits (m : Mode) : Mode.ofBits m.bits = some m := by cases m <;> rfl

theorem withMode_getLsbD (w : Word) (m : Mode) (j : Nat) :
    (withMode w m).getLsbD j = if j < 5 then m.bits.getLsbD j else w.getLsbD j := by
  by_cases h32 : j < 32
  · have hm : ∀ k : Fin 32, (~~~0x1F#32).getLsbD k.val = decide (5 ≤ k.val) := by decide
    have hj := hm ⟨j, h32⟩
    simp only at hj
    simp only [withMode, BitVec.getLsbD_or, BitVec.getLsbD_and, hj, BitVec.getLsbD_setWidth, h32, decide_true, Bool.true_and]
    by_cases h5 : j < 5
    · have : ¬ 5 ≤ j := by omega
      simp [h5, this]
    · have : 5 ≤ j := by omega
      simp [h5, this]
  · have h5 : ¬ j < 5 := by omega
    simp only [h5, if_false]
    rw [BitVec.getLsbD_of_ge _ _ (by omega), BitVec.getLsbD_of_ge _ _ (by omega)]

@[simp] theorem modeField_withMode (w : Word) (m : Mode) : modeField (withMode w m) = m.bits := by
  unfold modeField
  apply BitVec.eq_of_getLsbD_eq
  intro j hj
  simp [hj, withMode_getLsbD]

/-- Every bit of the CPSR after an exception entry (R530). -/
theorem Exc.cpsr_getLsbD (e : Exc) (w : Word) (j : Nat) :
    (e.cpsr w).getLsbD j =
      if j < 5 then e.mode.bits.getLsbD j else if j = 5 then false else if j = 7 then true
      else if j = 6 then (e.setsF || w.getLsbD 6) else w.getLsbD j := by
  unfold Exc.cpsr
  simp only
  cases hs : e.setsF <;>
    simp only [Bool.false_eq_true, if_false, if_true, Bool.false_or, Bool.true_or, putBit_getLsbD _ _ _ _ (by decide : 5 < 32),
      putBit_getLsbD _ _ _ _ (by decide : 6 < 32), putBit_getLsbD _ _ _ _ (by decide : 7 < 32), withMode_getLsbD] <;>
    split_ifs <;> first | rfl | (exfalso; omega) | (subst_vars; rfl)

@[simp] theorem modeField_excCpsr (e : Exc) (w : Word) : modeField (e.cpsr w) = e.mode.bits := by
  unfold modeField
  apply BitVec.eq_of_getLsbD_eq
  intro j hj
  simp [hj, Exc.cpsr_getLsbD]

theorem Exc.cpsr_thumb (e : Exc) (w : Word) : (e.cpsr w).getLsbD 5 = false := by
  rw [Exc.cpsr_getLsbD]; rfl

theorem Exc.cpsr_i (e : Exc) (w : Word) : (e.cpsr w).getLsbD 7 = true := by
  rw [Exc.cpsr_getLsbD]; rfl

/-! ## CPSR writes and the exception return -/

/-- A whole write of CPSR writes exactly that, and only a legal mode (R42, R45). -/
theorem State.writeCpsr_ok {s t : State} {v : Word} (h : s.writeCpsr v = .ok t) :
    (Mode.ofBits (modeField v)).isSome = true ∧ t = { s with cpsr := v } := by
  unfold State.writeCpsr at h
  split at h
  · rename_i m hm; cases h; simp [hm]
  · cases h

theorem State.writeCpsr_of_legal {s : State} {v : Word} (h : (Mode.ofBits (modeField v)).isSome = true) :
    s.writeCpsr v = .ok { s with cpsr := v } := by
  unfold State.writeCpsr
  split
  · rfl
  · rename_i hm; simp [hm] at h

theorem State.writeSpsr_ok {s t : State} {v : Word} (h : s.writeSpsr v = .ok t) :
    (s.spsr.get s.mode).isSome = true ∧ t = { s with spsr := s.spsr.set s.mode v } := by
  unfold State.writeSpsr State.spsrNow at h
  split at h
  · rename_i w hw; cases h; simp [hw]
  · cases h

@[simp] theorem alignPc_idem (b : Bool) (v : Word) : alignPc b (alignPc b v) = alignPc b v := by
  cases b <;> simp only [alignPc, Bool.false_eq_true, if_false, if_true, BitVec.and_assoc, BitVec.and_self]

/-- The program counter after a return is aligned for the restored T bit. -/
@[simp] theorem alignPc_returnPc (r : ReturnAlign) (old new : Bool) (v : Word) :
    alignPc new (returnPc r old new v) = returnPc r old new v := by
  cases r <;> simp [returnPc]

/-- The two readings agree on a return to ARM state. -/
theorem returnPc_arm (r : ReturnAlign) (v : Word) : returnPc r false false v = alignPc false v := by
  cases r <;> simp [returnPc]

/-- What an exception return answers (R259, R357). -/
theorem State.exceptionReturn_next {s u t : State} {r : ReturnAlign} {a : Word} (h : s.exceptionReturn u r a = .next t) :
    ∃ v, s.spsr.get s.mode = some v ∧ (Mode.ofBits (modeField v)).isSome = true ∧
      t = (({ s with cpsr := v } : State).setPc (returnPc r s.thumb (v.getLsbD 5) a)).refill := by
  unfold State.exceptionReturn State.loadCpsr State.spsrNow at h
  cases hv : s.spsr.get s.mode with
  | none => simp [hv] at h
  | some v =>
    simp only [hv] at h
    cases hw : s.writeCpsr v with
    | error f => simp [hw] at h
    | ok u =>
      simp only [hw, Host.Outcome.next.injEq] at h
      obtain ⟨hl, rfl⟩ := State.writeCpsr_ok hw
      exact ⟨v, rfl, hl, h.symm⟩

/-- An exception return completes exactly with an SPSR of a legal mode. -/
theorem State.exceptionReturn_of_legal {s : State} {v : Word} (u : State) (r : ReturnAlign) (a : Word) (h : s.spsr.get s.mode = some v)
    (hl : (Mode.ofBits (modeField v)).isSome = true) :
    s.exceptionReturn u r a = .next (({ s with cpsr := v } : State).setPc (returnPc r s.thumb (v.getLsbD 5) a)).refill := by
  simp [State.exceptionReturn, State.loadCpsr, State.spsrNow, h, State.writeCpsr_of_legal hl]
  rfl

/-- Without an SPSR, or with one of no legal mode, an exception return stops in the state it is told (R42, R47). -/
theorem State.exceptionReturn_illegal {s : State} (h : ∀ v, s.spsr.get s.mode = some v → (Mode.ofBits (modeField v)).isSome = false)
    (u : State) (r : ReturnAlign) (a : Word) : s.exceptionReturn u r a = u.stop .modeError := by
  unfold State.exceptionReturn State.loadCpsr State.spsrNow
  cases hv : s.spsr.get s.mode with
  | none => rfl
  | some v =>
    have hm := h v hv
    simp only [State.writeCpsr]
    cases ho : Mode.ofBits (modeField v) with
    | none => rfl
    | some m => simp [ho] at hm

/-! ## The host's inputs (R610) -/

@[simp] theorem State.withInputs_fiqNow (s : State) (b : Bool) (n : Nat) : (s.withInputs b n).fiqNow = b := rfl
@[simp] theorem State.withInputs_draws (s : State) (b : Bool) (n : Nat) : (s.withInputs b n).draws = n := rfl
@[simp] theorem State.withInputs_regs (s : State) (b : Bool) (n : Nat) : (s.withInputs b n).regs = s.regs := rfl
@[simp] theorem State.withInputs_cpsr (s : State) (b : Bool) (n : Nat) : (s.withInputs b n).cpsr = s.cpsr := rfl
@[simp] theorem State.withInputs_mem (s : State) (b : Bool) (n : Nat) : (s.withInputs b n).mem = s.mem := rfl
@[simp] theorem State.withInputs_cfg (s : State) (b : Bool) (n : Nat) : (s.withInputs b n).cfg = s.cfg := rfl
@[simp] theorem State.withInputs_fault (s : State) (b : Bool) (n : Nat) : (s.withInputs b n).fault = s.fault := rfl
@[simp] theorem State.withInputs_irqLine (s : State) (b : Bool) (n : Nat) : (s.withInputs b n).irqLine = s.irqLine := rfl

/-! ## Result writes -/

theorem State.dpWrite_next {s t u : State} {f : Bool} {rd : Reg} {o : Alu} (h : s.dpWrite t f rd o = .next u) :
    (rd = 15 ∧ f = true ∧ t.exceptionReturn s t.cfg.dpReturn o.result = .next u) ∨ (rd = 15 ∧ f = false ∧ u = (t.branch o.result).refill) ∨
      (rd ≠ 15 ∧ u = (if f then t.aluFlags o else t).setReg rd o.result) := by
  unfold State.dpWrite at h
  split at h
  · rename_i hr
    split at h
    · rename_i hf; exact .inl ⟨hr, hf, h⟩
    · rename_i hf; cases h; exact .inr (.inl ⟨hr, by simpa using hf, rfl⟩)
  · rename_i hr; cases h; exact .inr (.inr ⟨hr, rfl⟩)

theorem State.msr_next {s t : State} {r : Bool} {mask : BitVec 4} {v : Word} {cs : List (Bool × Unpred)} (h : s.msr r mask v cs = .next t) :
    (r = true ∧ ∃ old, s.spsr.get s.mode = some old ∧
      t = { s.fetched with spsr := s.spsr.set s.mode (maskedWrite old v (msrMask mask)) }) ∨
    (r = false ∧ (Mode.ofBits (modeField (s.msrCpsr mask v))).isSome = true ∧ t = { s.fetched with cpsr := s.msrCpsr mask v }) := by
  unfold State.msr at h
  cases r with
  | true =>
    have h := State.guarded_next h
    unfold State.spsrNow at h
    cases hv : s.spsr.get s.mode with
    | none => simp [hv] at h
    | some old =>
      simp only [hv] at h
      cases hw : s.fetched.writeSpsr (maskedWrite old v (msrMask mask)) with
      | error f => simp [hw] at h
      | ok u =>
        simp only [hw, State.orStop_ok, Host.Outcome.next.injEq] at h
        obtain ⟨_, rfl⟩ := State.writeSpsr_ok hw
        exact .inl ⟨rfl, old, rfl, h.symm⟩
  | false =>
    have h := State.guarded_next h
    cases hw : s.fetched.writeCpsr (s.msrCpsr mask v) with
    | error f => simp [hw] at h
    | ok u =>
      simp only [hw, State.orStop_ok, Host.Outcome.next.injEq] at h
      obtain ⟨hl, rfl⟩ := State.writeCpsr_ok hw
      exact .inr ⟨rfl, hl, h.symm⟩

/-! ## Loads and stores -/

theorem State.load_next {s t : State} {k : LoadKind} {a : Word} {rd : Reg} {wb : Bool} {rn : Reg} {back : Word}
    (h : s.load k a rd wb rn back = .next t) :
    let u := ((((s.charge .data .n (k.width a) (k.addr a)).fetched.internal 1).writeBack wb rn back).setReg rd (s.loadValue k a))
    t = if rd = 15 then u.refill else u := by
  have h := State.access_next h
  cases h
  rfl

theorem State.store_next {s t : State} {k : StoreKind} {a v : Word} {wb : Bool} {rn : Reg} {back : Word}
    (h : s.store k a v wb rn back = .next t) :
    t = ((((s.charge .data .n k.width (k.addr a)).advance).storeValue k a v).writeBack wb rn back).nnext := by
  have h := State.access_next h
  cases h
  rfl

theorem State.swapAt_next {s t : State} {k : LoadKind} {w : StoreKind} {a : Word} {rd rm : Reg} (h : s.swapAt k w a rd rm = .next t) :
    t = ((((s.charge .data .n w.width (w.addr a)).charge .data .n w.width (w.addr a)).fetched.internal 1).storeValue w a (s.reg rm)).setReg
      rd (s.loadValue k a) := by
  have h := State.access_next h
  cases h
  rfl

theorem State.loadBlock_next {s t : State} {user early : Bool} {start : Word} {rs : List Reg} {wb : Bool} {rn : Reg} {back : Word}
    (h : s.loadBlock user early start rs wb rn back = .next t) :
    let u := (((s.chargeBlock .n (blockPairs start rs)).fetched.internal 1).writeBack wb rn back).loadRegs user (blockPairs start rs)
    t = if (15 : Reg) ∈ rs then u.refill else u := by
  have h := State.accessBlock_next h
  cases h
  rfl

theorem State.storeBlock_next {s t : State} {user early : Bool} {start : Word} {rs : List Reg} {wb : Bool} {rn : Reg} {back : Word}
    (h : s.storeBlock user early start rs wb rn back = .next t) :
    t = ((((s.chargeBlock .n (blockPairs start rs)).advance.storeWords
      (s.storedWords user rs wb rn back (blockPairs start rs))).writeBack wb rn back).nnext) := by
  unfold State.storeBlock at h
  have h := State.accessBlock_next h
  cases h
  rfl

/-- A block load that reaches above the window stops in the state the words before leave. -/
theorem State.loadBlock_above {s : State} {start : Word} {rs : List Reg} (h : blockFaults s.cfg (blockPairs start rs) = true)
    (user early wb : Bool) (rn : Reg) (back : Word) :
    s.loadBlock user early start rs wb rn back =
      (s.loadReached user (wb && early) rn back (blockReached s.cfg (blockPairs start rs))).stop .ioOutOfWindow :=
  State.accessBlock_above h _ _

/-- A block store that reaches above the window stops in the state the words before leave. -/
theorem State.storeBlock_above {s : State} {start : Word} {rs : List Reg} (h : blockFaults s.cfg (blockPairs start rs) = true)
    (user early wb : Bool) (rn : Reg) (back : Word) :
    s.storeBlock user early start rs wb rn back =
      (((s.chargeBlock .n (blockReached s.cfg (blockPairs start rs))).storeWords
        (s.storedWords user rs wb rn back (blockReached s.cfg (blockPairs start rs)))).writeBack (wb && early) rn back).stop .ioOutOfWindow := by
  unfold State.storeBlock
  exact State.accessBlock_above h _ _

/-! ## Block transfers: the fields -/

theorem State.chargeBlock_keeps : ∀ (ps : List (Reg × Word)) (s : State) (q : Seq),
    (s.chargeBlock q ps).regs = s.regs ∧ (s.chargeBlock q ps).cpsr = s.cpsr ∧ (s.chargeBlock q ps).spsr = s.spsr ∧
    (s.chargeBlock q ps).mem = s.mem ∧ (s.chargeBlock q ps).costCode = s.costCode ∧ (s.chargeBlock q ps).costData = s.costData ∧
    (s.chargeBlock q ps).ioEvents = s.ioEvents ∧ (s.chargeBlock q ps).fault = s.fault ∧ (s.chargeBlock q ps).cfg = s.cfg ∧
    (s.chargeBlock q ps).fiqLine = s.fiqLine ∧ (s.chargeBlock q ps).draws = s.draws
  | [], _, _ => by simp [State.chargeBlock]
  | (_, a) :: ps, s, q => by
    have := State.chargeBlock_keeps ps (s.charge .data q .w32 a) .s
    simpa [State.chargeBlock] using this

theorem State.loadRegs_keeps : ∀ (ps : List (Reg × Word)) (s : State) (user : Bool),
    (s.loadRegs user ps).cpsr = s.cpsr ∧ (s.loadRegs user ps).spsr = s.spsr ∧ (s.loadRegs user ps).mem = s.mem ∧
    (s.loadRegs user ps).cycles = s.cycles ∧ (s.loadRegs user ps).sched = s.sched ∧
    (s.loadRegs user ps).costCode = s.costCode ∧ (s.loadRegs user ps).costData = s.costData ∧
    (s.loadRegs user ps).ioEvents = s.ioEvents ∧ (s.loadRegs user ps).fault = s.fault ∧ (s.loadRegs user ps).cfg = s.cfg ∧
    (s.loadRegs user ps).fiqLine = s.fiqLine ∧ (s.loadRegs user ps).draws = s.draws
  | [], _, _ => by simp [State.loadRegs]
  | (r, a) :: ps, s, user => by
    have := State.loadRegs_keeps ps (s.putReg user r (s.read32 a)) user
    simpa [State.loadRegs] using this

theorem State.storeWords_keeps : ∀ (ps : List (Word × Word)) (s : State),
    (s.storeWords ps).regs = s.regs ∧ (s.storeWords ps).cpsr = s.cpsr ∧ (s.storeWords ps).spsr = s.spsr ∧
    (s.storeWords ps).cycles = s.cycles ∧ (s.storeWords ps).sched = s.sched ∧
    (s.storeWords ps).costCode = s.costCode ∧ (s.storeWords ps).costData = s.costData ∧
    (s.storeWords ps).fault = s.fault ∧ (s.storeWords ps).cfg = s.cfg ∧
    (s.storeWords ps).fiqLine = s.fiqLine ∧ (s.storeWords ps).draws = s.draws
  | [], _ => by simp [State.storeWords]
  | (a, v) :: ps, s => by
    have := State.storeWords_keeps ps (s.write32 a v)
    simpa [State.storeWords] using this

end Sys2Proof.Machine
end

