-- ==== Sys2Proof/Laws/Alu.lean ====
section
/-! SUPPORT. The adder, the flag word, the rotation and the multiplies by plain arithmetic on words and integers. -/

namespace Sys2Proof.Machine

/-! ## Status words -/

/-- A word with its flags replaced, as the concatenation of its parts (10_state.md R40, R45). -/
theorem withFlags_append (w : Word) (n z c v : Bool) :
    withFlags w n z c v = BitVec.ofBool n ++ BitVec.ofBool z ++ BitVec.ofBool c ++ BitVec.ofBool v ++ w.extractLsb' 0 28 := by
  apply BitVec.eq_of_getLsbD_eq
  intro j hj
  rw [withFlags_getLsbD]
  simp only [BitVec.getLsbD_append, BitVec.getLsbD_extractLsb', BitVec.getLsbD_ofBool, Nat.zero_add]
  by_cases h : j < 28
  · have h1 : j ≠ 28 ∧ j ≠ 29 ∧ j ≠ 30 ∧ j ≠ 31 := by omega
    simp [h, h1]
  · have h1 : j = 28 ∨ j = 29 ∨ j = 30 ∨ j = 31 := by omega
    rcases h1 with rfl | rfl | rfl | rfl <;> simp

/-- A word with its T bit replaced, as the concatenation of its parts. -/
theorem putBit5_append (w : Word) (t : Bool) : putBit w 5 t = w.extractLsb' 6 26 ++ BitVec.ofBool t ++ w.extractLsb' 0 5 := by
  apply BitVec.eq_of_getLsbD_eq
  intro j hj
  rw [putBit_getLsbD _ _ _ _ (by decide)]
  simp only [BitVec.getLsbD_append, BitVec.getLsbD_extractLsb', BitVec.getLsbD_ofBool, Nat.zero_add]
  by_cases h : j < 5
  · have h1 : j ≠ 5 := by omega
    simp [h, h1]
  · by_cases h5 : j = 5
    · subst h5; simp
    · have h6 : ¬ j - 5 < 1 := by omega
      have h7 : 6 + (j - 5 - 1) = j := by omega
      have h8 : j - 5 - 1 < 26 := by omega
      simp [h, h5, h6, h7, h8]

/-- N is the sign of the result (40_shifter_alu_cond.md R219). -/
theorem negOf_toInt (r : Word) : negOf r = decide (r.toInt < 0) := by
  rw [negOf, ← BitVec.msb_eq_toInt, BitVec.msb_eq_getLsbD_last]

/-! ## The adder -/

/-- The sum, wrapped (R215). -/
theorem addWithCarry_result (a b : Word) (c : Bool) : (addWithCarry a b c).result = a + b + (if c then 1 else 0) := by
  apply BitVec.eq_of_toNat_eq
  cases c <;> simp [addWithCarry]

/-- The carry of an addition is its 33rd bit (R215). -/
theorem addWithCarry_c (a b : Word) (c : Bool) : (addWithCarry a b c).c = decide (4294967296 ≤ a.toNat + b.toNat + c.toNat) := rfl

/-- The overflow of an addition: the exact signed sum does not fit (R215). -/
theorem addWithCarry_v (a b : Word) (c : Bool) : (addWithCarry a b c).v =
    decide (a.toInt + b.toInt + c.toNat < -2147483648 ∨ 2147483647 < a.toInt + b.toInt + c.toNat) := by
  have ha := a.isLt
  have hb := b.isLt
  simp only [addWithCarry, BitVec.toInt_eq_toNat_cond, BitVec.toNat_ofNat]
  have hc : c.toNat ≤ 1 := by cases c <;> decide
  rw [decide_eq_decide]
  split_ifs <;> omega

theorem toInt_not (b : Word) : (~~~b).toInt = -b.toInt - 1 := by
  have hb := b.isLt
  simp only [BitVec.toInt_eq_toNat_cond, BitVec.toNat_not]
  split_ifs <;> omega

/-- A subtraction is the addition of the complement (R216). -/
theorem addWithCarry_not_result (a b : Word) (c : Bool) : (addWithCarry a (~~~b) c).result = a - b - (if c then 0 else 1) := by
  have ha := a.isLt
  have hb := b.isLt
  apply BitVec.eq_of_toNat_eq
  cases c <;> simp [addWithCarry, BitVec.toNat_sub, BitVec.toNat_not] <;> omega

/-- After a subtraction the carry says that there was no borrow (R216). -/
theorem addWithCarry_not_c (a b : Word) (c : Bool) : (addWithCarry a (~~~b) c).c = decide (b.toNat + (!c).toNat ≤ a.toNat) := by
  have ha := a.isLt
  have hb := b.isLt
  simp only [addWithCarry, BitVec.toNat_not]
  rw [decide_eq_decide]
  cases c <;> simp <;> omega

/-- The overflow of a subtraction: the exact signed difference does not fit (R215, R216). -/
theorem addWithCarry_not_v (a b : Word) (c : Bool) : (addWithCarry a (~~~b) c).v =
    decide (a.toInt - b.toInt - (!c).toNat < -2147483648 ∨ 2147483647 < a.toInt - b.toInt - (!c).toNat) := by
  rw [addWithCarry_v, toInt_not, decide_eq_decide]
  cases c <;> simp only [Bool.toNat_false, Bool.toNat_true, Bool.not_false, Bool.not_true] <;> omega

/-! ## Rotation -/

/-- The model's rotation is the library's (40_shifter_alu_cond.md R210). -/
theorem ror_rotateRight (v : Word) (n : Nat) : ror v n = v.rotateRight n := by
  rw [ror, BitVec.rotateRight_def]

/-- Bit by bit (R210). -/
theorem ror_getLsbD (v : Word) (n j : Nat) (hj : j < 32) : (ror v n).getLsbD j = v.getLsbD ((j + n) % 32) := by
  rw [ror_rotateRight, BitVec.getLsbD_rotateRight]
  by_cases h : j < 32 - n % 32
  · have : (j + n) % 32 = n % 32 + j := by omega
    simp [h, this]
  · have : (j + n) % 32 = j - (32 - n % 32) := by omega
    simp [h, this, hj]

/-! ## Multiplies -/

theorem mul_ofNat (a b : Word) : a * b = BitVec.ofNat 32 (a.toNat * b.toNat) := by
  apply BitVec.eq_of_toNat_eq; simp

theorem mul_add_ofNat (a b c : Word) : a * b + c = BitVec.ofNat 32 (a.toNat * b.toNat + c.toNat) := by
  apply BitVec.eq_of_toNat_eq; simp

/-- The unsigned 64-bit product is exact (42_arm_multiply.md R300). -/
theorem productU_ofNat (a b : Word) : productU a b = BitVec.ofNat 64 (a.toNat * b.toNat) := by
  apply BitVec.eq_of_toNat_eq
  simp [productU]

/-- The signed 64-bit product is exact (R300). -/
theorem productS_ofInt (a b : Word) : productS a b = BitVec.ofInt 64 (a.toInt * b.toInt) := by
  apply BitVec.eq_of_toInt_eq
  simp [productS, BitVec.toInt_mul, BitVec.toInt_signExtend_of_le]

theorem topZero_iff (x : Word) (k : Nat) : topZero x k = decide (x.toNat < 2 ^ k) := by
  unfold topZero
  rw [decide_eq_decide, ← BitVec.toNat_inj, BitVec.toNat_ushiftRight, Nat.shiftRight_eq_div_pow]
  simp [Nat.div_eq_zero_iff]

/-- The bits from `k` up are alike when the signed value fits `k` bits and a sign (70_reset_and_hazards.md R593). -/
theorem topSame_iff (x : Word) (k : Nat) (hk : k < 32) : topSame x k = decide (-(2 ^ k : Int) ≤ x.toInt ∧ x.toInt < 2 ^ k) := by
  have hx := x.isLt
  have hp : (2 : Nat) ^ k ≤ 2 ^ 31 := Nat.pow_le_pow_right (by decide) (by omega)
  have hc : ((2 : Int) ^ k) = ((2 ^ k : Nat) : Int) := by push_cast; rfl
  unfold topSame
  rw [topZero_iff, topZero_iff, ← Bool.decide_or, decide_eq_decide, BitVec.toNat_not, hc, BitVec.toInt_eq_toNat_cond]
  generalize (2 : Nat) ^ k = p at *
  split_ifs <;> omega

end Sys2Proof.Machine
end

