-- ==== Sys2Proof/Laws/Inv.lean ====
section
/-! SUPPORT. Each shared operation keeps the invariant: a legal mode, an aligned fetch address, memory in canonical form. -/

namespace Sys2Proof.Machine

/-! ## Alignment -/

theorem getLsbD_mask4 (v : Word) (j : Nat) : (v &&& 0xFFFFFFFC#32).getLsbD j = (v.getLsbD j && decide (2 ≤ j)) := by
  by_cases hj : j < 32
  · have h : ∀ k : Fin 32, (0xFFFFFFFC#32).getLsbD k.val = decide (2 ≤ k.val) := by decide
    rw [BitVec.getLsbD_and, h ⟨j, hj⟩]
  · rw [BitVec.getLsbD_of_ge _ _ (by omega), BitVec.getLsbD_of_ge v _ (by omega)]; rfl

theorem getLsbD_mask2 (v : Word) (j : Nat) : (v &&& 0xFFFFFFFE#32).getLsbD j = (v.getLsbD j && decide (1 ≤ j)) := by
  by_cases hj : j < 32
  · have h : ∀ k : Fin 32, (0xFFFFFFFE#32).getLsbD k.val = decide (1 ≤ k.val) := by decide
    rw [BitVec.getLsbD_and, h ⟨j, hj⟩]
  · rw [BitVec.getLsbD_of_ge _ _ (by omega), BitVec.getLsbD_of_ge v _ (by omega)]; rfl

theorem toNat_mod4 (v : Word) : v.toNat % 4 = 0 ↔ v.getLsbD 0 = false ∧ v.getLsbD 1 = false := by
  rw [BitVec.getLsbD, BitVec.getLsbD, Nat.testBit, Nat.testBit]
  simp only [Nat.shiftRight_zero, Nat.shiftRight_one, bne_eq_false_iff_eq, Nat.and_comm 1, Nat.and_one_is_mod]
  omega

theorem toNat_mod2 (v : Word) : v.toNat % 2 = 0 ↔ v.getLsbD 0 = false := by
  rw [BitVec.getLsbD, Nat.testBit]
  simp only [Nat.shiftRight_zero, bne_eq_false_iff_eq, Nat.one_and_eq_mod_two]

theorem mask4_eq (v : Word) : v &&& 0xFFFFFFFC#32 = v ↔ v.toNat % 4 = 0 := by
  rw [toNat_mod4]
  constructor
  · intro h
    exact ⟨by rw [← h, getLsbD_mask4]; simp, by rw [← h, getLsbD_mask4]; simp⟩
  · intro ⟨h0, h1⟩
    apply BitVec.eq_of_getLsbD_eq
    intro j _
    rw [getLsbD_mask4]
    by_cases h2 : 2 ≤ j
    · simp [h2]
    · have : j = 0 ∨ j = 1 := by omega
      rcases this with rfl | rfl
      · rw [h0]; rfl
      · rw [h1]; rfl

theorem mask2_eq (v : Word) : v &&& 0xFFFFFFFE#32 = v ↔ v.toNat % 2 = 0 := by
  rw [toNat_mod2]
  constructor
  · intro h
    rw [← h, getLsbD_mask2]; simp
  · intro h0
    apply BitVec.eq_of_getLsbD_eq
    intro j _
    rw [getLsbD_mask2]
    by_cases h2 : 1 ≤ j
    · simp [h2]
    · have : j = 0 := by omega
      subst this
      rw [h0]; rfl

theorem alignPc_arm (v : Word) : alignPc false v = v ↔ v.toNat % 4 = 0 := mask4_eq v

theorem alignPc_thumb (v : Word) : alignPc true v = v ↔ v.toNat % 2 = 0 := mask2_eq v

theorem alignWord_mod (v : Word) : (alignWord v).toNat % 4 = 0 := by
  rw [toNat_mod4]
  exact ⟨by rw [alignWord, getLsbD_mask4]; simp, by rw [alignWord, getLsbD_mask4]; simp⟩

theorem alignHalf_mod (v : Word) : (alignHalf v).toNat % 2 = 0 := by
  rw [toNat_mod2, alignHalf, getLsbD_mask2]; simp

/-- The next instruction's address is aligned. -/
theorem alignPc_ilen {b : Bool} {v : Word} (h : alignPc b v = v) : alignPc b (v + if b then 2 else 4) = v + if b then 2 else 4 := by
  cases b with
  | false =>
    rw [alignPc_arm] at h ⊢
    have h4 : (4 : Word).toNat = 4 := rfl
    simp only [Bool.false_eq_true, if_false, BitVec.toNat_add, h4]
    omega
  | true =>
    rw [alignPc_thumb] at h ⊢
    have h2 : (2 : Word).toNat = 2 := rfl
    simp only [if_true, BitVec.toNat_add, h2]
    omega

/-! ## The invariant of each operation -/

theorem State.Inv.mk' {t : State} (hm : (Mode.ofBits (modeField t.cpsr)).isSome = true) (hp : alignPc t.thumb t.pc = t.pc)
    (hw : t.mem.wf = true) : t.Inv :=
  ⟨hm, by simpa [State.pcAligned] using hp, hw⟩

theorem State.Inv.mode {s : State} (h : s.Inv) : (Mode.ofBits (modeField s.cpsr)).isSome = true := h.1

theorem State.Inv.pc {s : State} (h : s.Inv) : alignPc s.thumb s.pc = s.pc := by simpa [State.pcAligned] using h.2.1

theorem State.Inv.mem {s : State} (h : s.Inv) : s.mem.wf = true := h.2.2

theorem State.Inv.congr {s t : State} (h : s.Inv) (hc : t.cpsr = s.cpsr) (hp : t.pc = s.pc) (hm : t.mem = s.mem) : t.Inv :=
  .mk' (hc ▸ h.mode) (by rw [State.thumb_congr hc, hp]; exact h.pc) (hm ▸ h.mem)

theorem State.Inv.fetched {s : State} (h : s.Inv) : s.fetched.Inv :=
  .mk' h.mode (alignPc_ilen h.pc) h.mem

theorem State.Inv.advance {s : State} (h : s.Inv) : s.advance.Inv :=
  .mk' h.mode (alignPc_ilen h.pc) h.mem

theorem State.Inv.internal {s : State} (h : s.Inv) (n : Nat) : (s.internal n).Inv := h.congr rfl rfl rfl

theorem State.Inv.charge {s : State} (h : s.Inv) (k : Kind) (q : Seq) (w : Width) (a : Word) : (s.charge k q w a).Inv := h.congr rfl rfl rfl

theorem State.Inv.refill {s : State} (h : s.Inv) : s.refill.Inv := h.congr rfl rfl rfl

theorem State.Inv.nnext {s : State} (h : s.Inv) : s.nnext.Inv := h.congr rfl rfl rfl

theorem State.Inv.takeInputs {s : State} (h : s.Inv) : s.takeInputs.Inv := h.congr rfl rfl rfl

/-- A branch aligns whatever it is given, so nothing is asked of the old address. -/
theorem State.Inv.branch {s : State} (h : s.Inv) (v : Word) : (s.branch v).Inv :=
  .mk' h.mode (alignPc_idem _ _) h.mem

theorem State.Inv.setPc {s : State} (h : s.Inv) {v : Word} (hv : alignPc s.thumb v = v) : (s.setPc v).Inv := .mk' h.mode hv h.mem

theorem State.Inv.writeFlags {s : State} (h : s.Inv) (n z c v : Bool) : (s.writeFlags n z c v).Inv := by
  have ht : (s.writeFlags n z c v).thumb = s.thumb := by
    simp only [State.thumb, State.writeFlags_cpsr, withFlags_getLsbD]; rfl
  exact .mk' (by simpa using h.mode) (by rw [ht]; exact h.pc) h.mem

theorem State.Inv.setReg {s : State} (h : s.Inv) (i : Reg) (v : Word) : (s.setReg i v).Inv := by
  by_cases hi : i = 15
  · subst hi; exact h.branch v
  · exact h.congr (by simp) (State.setReg_pc_of_ne s v hi) (by simp)

theorem State.Inv.setUserReg {s : State} (h : s.Inv) (i : Reg) (v : Word) : (s.setUserReg i v).Inv := by
  by_cases hi : i = 15
  · subst hi; exact h.branch v
  · exact h.congr (by simp) (State.setUserReg_pc_of_ne s v hi) (by simp)

theorem State.Inv.putReg {s : State} (h : s.Inv) (u : Bool) (i : Reg) (v : Word) : (s.putReg u i v).Inv := by
  cases u
  · exact h.setReg i v
  · exact h.setUserReg i v

theorem State.Inv.writeBack {s : State} (h : s.Inv) (b : Bool) (i : Reg) (v : Word) : (s.writeBack b i v).Inv := by
  cases b
  · exact h
  · exact h.setReg i v

theorem State.storeValue_pc (s : State) (k : StoreKind) (a v : Word) : (s.storeValue k a v).pc = s.pc := by
  simp [State.pc]

theorem State.Inv.storeValue {s : State} (h : s.Inv) (k : StoreKind) (a v : Word) : (s.storeValue k a v).Inv :=
  .mk' (by simpa using h.mode) (by rw [State.thumb_congr (State.storeValue_cpsr ..), State.storeValue_pc]; exact h.pc)
    (State.storeValue_wf s k a v h.mem)

theorem State.Inv.chargeBlock {s : State} (h : s.Inv) (q : Seq) (ps : List (Reg × Word)) : (s.chargeBlock q ps).Inv := by
  have hk := State.chargeBlock_keeps ps s q
  exact h.congr hk.2.1 (by simp [State.pc, hk.1]) hk.2.2.2.1

theorem State.Inv.loadRegs : ∀ (ps : List (Reg × Word)) {s : State}, s.Inv → ∀ u, (s.loadRegs u ps).Inv
  | [], _, h, _ => h
  | (r, a) :: ps, s, h, u => State.Inv.loadRegs ps (h.putReg u r (s.read32 a)) u

theorem State.Inv.storeWords {s : State} (h : s.Inv) (ps : List (Word × Word)) : (s.storeWords ps).Inv := by
  have hk := State.storeWords_keeps ps s
  exact .mk' (by rw [hk.2.1]; exact h.mode) (by rw [State.thumb_congr hk.2.1]; simp only [State.pc, hk.1]; exact h.pc)
    (State.storeWords_wf ps s h.mem)

theorem State.Inv.enter {s : State} (h : s.Inv) (e : Exc) (r : Word) : (s.enter e r).Inv := by
  refine .mk' (by simp) ?_ h.mem
  have ht : (s.enter e r).thumb = false := Exc.cpsr_thumb e s.cpsr
  have hp : (s.enter e r).pc = e.vector := by simp [State.pc]
  rw [ht, hp]
  cases e <;> decide

theorem State.Inv.trap {s : State} (h : s.Inv) (e : Exc) : (s.trap e).Inv := (h.fetched.enter e _).refill

theorem State.Inv.interrupt {s : State} (h : s.Inv) (e : Exc) : (s.interrupt e).Inv := ((h.charge _ _ _ _).enter e _).refill

theorem State.Inv.exceptionReturn {s u t : State} {r : ReturnAlign} {a : Word} (h : s.Inv) (ht : s.exceptionReturn u r a = .next t) : t.Inv := by
  obtain ⟨v, _, hl, rfl⟩ := State.exceptionReturn_next ht
  exact State.Inv.refill (.mk' hl (alignPc_returnPc _ _ _ _) h.mem)

theorem State.Inv.exchange {s : State} (h : s.Inv) (v : Word) : (s.exchange v).Inv := by
  refine State.Inv.refill (.mk' ?_ (alignPc_idem _ _) h.mem)
  show (Mode.ofBits (modeField (putBit s.cpsr 5 _))).isSome = true
  rw [modeField_putBit _ _ _ (by decide) (by decide)]
  exact h.mode

theorem State.Inv.jump {s : State} (h : s.Inv) {v : Word} (hv : alignPc s.thumb v = v) : (s.jump v).Inv :=
  State.Inv.refill (h.fetched.setPc hv)

theorem State.Inv.undefinedEncoding {s t : State} (h : s.Inv) (ht : s.undefinedEncoding = .next t) : t.Inv := by
  unfold State.undefinedEncoding at ht
  split at ht <;> cases ht
  · exact h.fetched
  · exact h.trap _

theorem State.Inv.dpWrite {s u t : State} {f : Bool} {rd : Reg} {o : Alu} (h : u.Inv) (ht : s.dpWrite u f rd o = .next t) : t.Inv := by
  rcases State.dpWrite_next ht with ⟨_, _, he⟩ | ⟨_, _, rfl⟩ | ⟨_, rfl⟩
  · exact h.exceptionReturn he
  · exact (h.branch _).refill
  · cases f
    · exact h.setReg _ _
    · exact (h.writeFlags _ _ _ _).setReg _ _

theorem State.Inv.load {s t : State} {k : LoadKind} {a : Word} {rd : Reg} {wb : Bool} {rn : Reg} {back : Word} (h : s.Inv)
    (ht : s.load k a rd wb rn back = .next t) : t.Inv := by
  have e := State.load_next ht
  have hu := (((h.charge .data .n (k.width a) (k.addr a)).fetched.internal 1).writeBack wb rn back).setReg rd (s.loadValue k a)
  simp only at e
  rw [e]
  split
  · exact hu.refill
  · exact hu

theorem State.Inv.store {s t : State} {k : StoreKind} {a v : Word} {wb : Bool} {rn : Reg} {back : Word} (h : s.Inv)
    (ht : s.store k a v wb rn back = .next t) : t.Inv := by
  rw [State.store_next ht]
  exact (((h.charge _ _ _ _).advance.storeValue _ _ _).writeBack _ _ _).nnext

theorem State.Inv.swapAt {s t : State} {k : LoadKind} {w : StoreKind} {a : Word} {rd rm : Reg} (h : s.Inv)
    (ht : s.swapAt k w a rd rm = .next t) : t.Inv := by
  rw [State.swapAt_next ht]
  exact ((((h.charge _ _ _ _).charge _ _ _ _).fetched.internal 1).storeValue _ _ _).setReg _ _

theorem State.Inv.loadBlock {s t : State} {user early : Bool} {start : Word} {rs : List Reg} {wb : Bool} {rn : Reg} {back : Word} (h : s.Inv)
    (ht : s.loadBlock user early start rs wb rn back = .next t) : t.Inv := by
  have e := State.loadBlock_next ht
  have hu := State.Inv.loadRegs (blockPairs start rs)
    (((h.chargeBlock .n (blockPairs start rs)).fetched.internal 1).writeBack wb rn back) user
  simp only at e
  rw [e]
  split
  · exact hu.refill
  · exact hu

theorem State.Inv.storeBlock {s t : State} {user early : Bool} {start : Word} {rs : List Reg} {wb : Bool} {rn : Reg} {back : Word} (h : s.Inv)
    (ht : s.storeBlock user early start rs wb rn back = .next t) : t.Inv := by
  rw [State.storeBlock_next ht]
  exact (((h.chargeBlock _ _).advance.storeWords _).writeBack _ _ _).nnext

theorem State.Inv.loadReturn {s t : State} {start : Word} {rs : List Reg} {wb : Bool} {rn : Reg} {back : Word} (h : s.Inv)
    (ht : s.loadReturn start rs wb rn back = .next t) : t.Inv := by
  have ht := State.accessBlock_next ht
  exact State.Inv.exceptionReturn
    (State.Inv.loadRegs _ (((h.chargeBlock .n (blockPairs start rs)).fetched.internal 1).writeBack wb rn back) false) ht

end Sys2Proof.Machine
end

