-- ==== Sys2Proof/Laws/PerInstr.lean ====
section
/-! SUPPORT. A fact about every instruction as syntax, one lemma per constructor: its encoding's length and decode table. -/

namespace Sys2Proof.Laws.EncodeLength

/-- The encoding of an instruction is a 32-bit word exactly for the rows of the 32-bit table, and its bytes are 4 or 2
(30_encoding.md R140). -/
def Statement (i : Instr) : Prop :=
  match i.encode with
  | .arm w => i.isArm = true ∧ (Code.arm w).bytes.length = 4
  | .thumb h => i.isArm = false ∧ (Code.thumb h).bytes.length = 2

theorem mul (c : Cond) (s : Bool) (rd : Reg) (rs : Reg) (rm : Reg) : Statement (.mul c s rd rs rm) := ⟨rfl, rfl⟩

theorem mla (c : Cond) (s : Bool) (rd : Reg) (rn : Reg) (rs : Reg) (rm : Reg) : Statement (.mla c s rd rn rs rm) := ⟨rfl, rfl⟩

theorem undefMul (c : Cond) : Statement (.undefMul c) := ⟨rfl, rfl⟩

theorem umull (c : Cond) (s : Bool) (rdHi : Reg) (rdLo : Reg) (rs : Reg) (rm : Reg) : Statement (.umull c s rdHi rdLo rs rm) := ⟨rfl, rfl⟩

theorem umlal (c : Cond) (s : Bool) (rdHi : Reg) (rdLo : Reg) (rs : Reg) (rm : Reg) : Statement (.umlal c s rdHi rdLo rs rm) := ⟨rfl, rfl⟩

theorem smull (c : Cond) (s : Bool) (rdHi : Reg) (rdLo : Reg) (rs : Reg) (rm : Reg) : Statement (.smull c s rdHi rdLo rs rm) := ⟨rfl, rfl⟩

theorem smlal (c : Cond) (s : Bool) (rdHi : Reg) (rdLo : Reg) (rs : Reg) (rm : Reg) : Statement (.smlal c s rdHi rdLo rs rm) := ⟨rfl, rfl⟩

theorem swp (c : Cond) (rn : Reg) (rd : Reg) (rm : Reg) : Statement (.swp c rn rd rm) := ⟨rfl, rfl⟩

theorem swpb (c : Cond) (rn : Reg) (rd : Reg) (rm : Reg) : Statement (.swpb c rn rd rm) := ⟨rfl, rfl⟩

theorem undefSwp (c : Cond) : Statement (.undefSwp c) := ⟨rfl, rfl⟩

theorem strhReg (c : Cond) (m : Idx) (rn : Reg) (rd : Reg) (rm : Reg) : Statement (.strhReg c m rn rd rm) := ⟨rfl, rfl⟩

theorem strhImm (c : Cond) (m : Idx) (rn : Reg) (rd : Reg) (off : BitVec 8) : Statement (.strhImm c m rn rd off) := ⟨rfl, rfl⟩

theorem ldrhReg (c : Cond) (m : Idx) (rn : Reg) (rd : Reg) (rm : Reg) : Statement (.ldrhReg c m rn rd rm) := ⟨rfl, rfl⟩

theorem ldrhImm (c : Cond) (m : Idx) (rn : Reg) (rd : Reg) (off : BitVec 8) : Statement (.ldrhImm c m rn rd off) := ⟨rfl, rfl⟩

theorem ldrsbReg (c : Cond) (m : Idx) (rn : Reg) (rd : Reg) (rm : Reg) : Statement (.ldrsbReg c m rn rd rm) := ⟨rfl, rfl⟩

theorem ldrsbImm (c : Cond) (m : Idx) (rn : Reg) (rd : Reg) (off : BitVec 8) : Statement (.ldrsbImm c m rn rd off) := ⟨rfl, rfl⟩

theorem ldrshReg (c : Cond) (m : Idx) (rn : Reg) (rd : Reg) (rm : Reg) : Statement (.ldrshReg c m rn rd rm) := ⟨rfl, rfl⟩

theorem ldrshImm (c : Cond) (m : Idx) (rn : Reg) (rd : Reg) (off : BitVec 8) : Statement (.ldrshImm c m rn rd off) := ⟨rfl, rfl⟩

theorem undefHalfwordStore (c : Cond) : Statement (.undefHalfwordStore c) := ⟨rfl, rfl⟩

theorem mrs (c : Cond) (r : Bool) (rd : Reg) : Statement (.mrs c r rd) := ⟨rfl, rfl⟩

theorem msrReg (c : Cond) (r : Bool) (mask : BitVec 4) (rm : Reg) : Statement (.msrReg c r mask rm) := ⟨rfl, rfl⟩

theorem bx (c : Cond) (rm : Reg) : Statement (.bx c rm) := ⟨rfl, rfl⟩

theorem undefMisc (c : Cond) : Statement (.undefMisc c) := ⟨rfl, rfl⟩

theorem msrImm (c : Cond) (r : Bool) (mask : BitVec 4) (o : RotImm) : Statement (.msrImm c r mask o) := ⟨rfl, rfl⟩

theorem undefImmCmp (c : Cond) : Statement (.undefImmCmp c) := ⟨rfl, rfl⟩

theorem andImm (c : Cond) (s : Bool) (rn : Reg) (rd : Reg) (o : RotImm) : Statement (.andImm c s rn rd o) := ⟨rfl, rfl⟩

theorem andImmShift (c : Cond) (s : Bool) (rn : Reg) (rd : Reg) (o : ImmShift) : Statement (.andImmShift c s rn rd o) := ⟨rfl, rfl⟩

theorem andRegShift (c : Cond) (s : Bool) (rn : Reg) (rd : Reg) (o : RegShift) : Statement (.andRegShift c s rn rd o) := ⟨rfl, rfl⟩

theorem eorImm (c : Cond) (s : Bool) (rn : Reg) (rd : Reg) (o : RotImm) : Statement (.eorImm c s rn rd o) := ⟨rfl, rfl⟩

theorem eorImmShift (c : Cond) (s : Bool) (rn : Reg) (rd : Reg) (o : ImmShift) : Statement (.eorImmShift c s rn rd o) := ⟨rfl, rfl⟩

theorem eorRegShift (c : Cond) (s : Bool) (rn : Reg) (rd : Reg) (o : RegShift) : Statement (.eorRegShift c s rn rd o) := ⟨rfl, rfl⟩

theorem subImm (c : Cond) (s : Bool) (rn : Reg) (rd : Reg) (o : RotImm) : Statement (.subImm c s rn rd o) := ⟨rfl, rfl⟩

theorem subImmShift (c : Cond) (s : Bool) (rn : Reg) (rd : Reg) (o : ImmShift) : Statement (.subImmShift c s rn rd o) := ⟨rfl, rfl⟩

theorem subRegShift (c : Cond) (s : Bool) (rn : Reg) (rd : Reg) (o : RegShift) : Statement (.subRegShift c s rn rd o) := ⟨rfl, rfl⟩

theorem rsbImm (c : Cond) (s : Bool) (rn : Reg) (rd : Reg) (o : RotImm) : Statement (.rsbImm c s rn rd o) := ⟨rfl, rfl⟩

theorem rsbImmShift (c : Cond) (s : Bool) (rn : Reg) (rd : Reg) (o : ImmShift) : Statement (.rsbImmShift c s rn rd o) := ⟨rfl, rfl⟩

theorem rsbRegShift (c : Cond) (s : Bool) (rn : Reg) (rd : Reg) (o : RegShift) : Statement (.rsbRegShift c s rn rd o) := ⟨rfl, rfl⟩

theorem addImm (c : Cond) (s : Bool) (rn : Reg) (rd : Reg) (o : RotImm) : Statement (.addImm c s rn rd o) := ⟨rfl, rfl⟩

theorem addImmShift (c : Cond) (s : Bool) (rn : Reg) (rd : Reg) (o : ImmShift) : Statement (.addImmShift c s rn rd o) := ⟨rfl, rfl⟩

theorem addRegShift (c : Cond) (s : Bool) (rn : Reg) (rd : Reg) (o : RegShift) : Statement (.addRegShift c s rn rd o) := ⟨rfl, rfl⟩

theorem adcImm (c : Cond) (s : Bool) (rn : Reg) (rd : Reg) (o : RotImm) : Statement (.adcImm c s rn rd o) := ⟨rfl, rfl⟩

theorem adcImmShift (c : Cond) (s : Bool) (rn : Reg) (rd : Reg) (o : ImmShift) : Statement (.adcImmShift c s rn rd o) := ⟨rfl, rfl⟩

theorem adcRegShift (c : Cond) (s : Bool) (rn : Reg) (rd : Reg) (o : RegShift) : Statement (.adcRegShift c s rn rd o) := ⟨rfl, rfl⟩

theorem sbcImm (c : Cond) (s : Bool) (rn : Reg) (rd : Reg) (o : RotImm) : Statement (.sbcImm c s rn rd o) := ⟨rfl, rfl⟩

theorem sbcImmShift (c : Cond) (s : Bool) (rn : Reg) (rd : Reg) (o : ImmShift) : Statement (.sbcImmShift c s rn rd o) := ⟨rfl, rfl⟩

theorem sbcRegShift (c : Cond) (s : Bool) (rn : Reg) (rd : Reg) (o : RegShift) : Statement (.sbcRegShift c s rn rd o) := ⟨rfl, rfl⟩

theorem rscImm (c : Cond) (s : Bool) (rn : Reg) (rd : Reg) (o : RotImm) : Statement (.rscImm c s rn rd o) := ⟨rfl, rfl⟩

theorem rscImmShift (c : Cond) (s : Bool) (rn : Reg) (rd : Reg) (o : ImmShift) : Statement (.rscImmShift c s rn rd o) := ⟨rfl, rfl⟩

theorem rscRegShift (c : Cond) (s : Bool) (rn : Reg) (rd : Reg) (o : RegShift) : Statement (.rscRegShift c s rn rd o) := ⟨rfl, rfl⟩

theorem tstImm (c : Cond) (rn : Reg) (o : RotImm) : Statement (.tstImm c rn o) := ⟨rfl, rfl⟩

theorem tstImmShift (c : Cond) (rn : Reg) (o : ImmShift) : Statement (.tstImmShift c rn o) := ⟨rfl, rfl⟩

theorem tstRegShift (c : Cond) (rn : Reg) (o : RegShift) : Statement (.tstRegShift c rn o) := ⟨rfl, rfl⟩

theorem teqImm (c : Cond) (rn : Reg) (o : RotImm) : Statement (.teqImm c rn o) := ⟨rfl, rfl⟩

theorem teqImmShift (c : Cond) (rn : Reg) (o : ImmShift) : Statement (.teqImmShift c rn o) := ⟨rfl, rfl⟩

theorem teqRegShift (c : Cond) (rn : Reg) (o : RegShift) : Statement (.teqRegShift c rn o) := ⟨rfl, rfl⟩

theorem cmpImm (c : Cond) (rn : Reg) (o : RotImm) : Statement (.cmpImm c rn o) := ⟨rfl, rfl⟩

theorem cmpImmShift (c : Cond) (rn : Reg) (o : ImmShift) : Statement (.cmpImmShift c rn o) := ⟨rfl, rfl⟩

theorem cmpRegShift (c : Cond) (rn : Reg) (o : RegShift) : Statement (.cmpRegShift c rn o) := ⟨rfl, rfl⟩

theorem cmnImm (c : Cond) (rn : Reg) (o : RotImm) : Statement (.cmnImm c rn o) := ⟨rfl, rfl⟩

theorem cmnImmShift (c : Cond) (rn : Reg) (o : ImmShift) : Statement (.cmnImmShift c rn o) := ⟨rfl, rfl⟩

theorem cmnRegShift (c : Cond) (rn : Reg) (o : RegShift) : Statement (.cmnRegShift c rn o) := ⟨rfl, rfl⟩

theorem orrImm (c : Cond) (s : Bool) (rn : Reg) (rd : Reg) (o : RotImm) : Statement (.orrImm c s rn rd o) := ⟨rfl, rfl⟩

theorem orrImmShift (c : Cond) (s : Bool) (rn : Reg) (rd : Reg) (o : ImmShift) : Statement (.orrImmShift c s rn rd o) := ⟨rfl, rfl⟩

theorem orrRegShift (c : Cond) (s : Bool) (rn : Reg) (rd : Reg) (o : RegShift) : Statement (.orrRegShift c s rn rd o) := ⟨rfl, rfl⟩

theorem movImm (c : Cond) (s : Bool) (rd : Reg) (o : RotImm) : Statement (.movImm c s rd o) := ⟨rfl, rfl⟩

theorem movImmShift (c : Cond) (s : Bool) (rd : Reg) (o : ImmShift) : Statement (.movImmShift c s rd o) := ⟨rfl, rfl⟩

theorem movRegShift (c : Cond) (s : Bool) (rd : Reg) (o : RegShift) : Statement (.movRegShift c s rd o) := ⟨rfl, rfl⟩

theorem bicImm (c : Cond) (s : Bool) (rn : Reg) (rd : Reg) (o : RotImm) : Statement (.bicImm c s rn rd o) := ⟨rfl, rfl⟩

theorem bicImmShift (c : Cond) (s : Bool) (rn : Reg) (rd : Reg) (o : ImmShift) : Statement (.bicImmShift c s rn rd o) := ⟨rfl, rfl⟩

theorem bicRegShift (c : Cond) (s : Bool) (rn : Reg) (rd : Reg) (o : RegShift) : Statement (.bicRegShift c s rn rd o) := ⟨rfl, rfl⟩

theorem mvnImm (c : Cond) (s : Bool) (rd : Reg) (o : RotImm) : Statement (.mvnImm c s rd o) := ⟨rfl, rfl⟩

theorem mvnImmShift (c : Cond) (s : Bool) (rd : Reg) (o : ImmShift) : Statement (.mvnImmShift c s rd o) := ⟨rfl, rfl⟩

theorem mvnRegShift (c : Cond) (s : Bool) (rd : Reg) (o : RegShift) : Statement (.mvnRegShift c s rd o) := ⟨rfl, rfl⟩

theorem ldrtImm (c : Cond) (u : Bool) (rn : Reg) (rd : Reg) (off : BitVec 12) : Statement (.ldrtImm c u rn rd off) := ⟨rfl, rfl⟩

theorem ldrtReg (c : Cond) (u : Bool) (rn : Reg) (rd : Reg) (o : ImmShift) : Statement (.ldrtReg c u rn rd o) := ⟨rfl, rfl⟩

theorem ldrbtImm (c : Cond) (u : Bool) (rn : Reg) (rd : Reg) (off : BitVec 12) : Statement (.ldrbtImm c u rn rd off) := ⟨rfl, rfl⟩

theorem ldrbtReg (c : Cond) (u : Bool) (rn : Reg) (rd : Reg) (o : ImmShift) : Statement (.ldrbtReg c u rn rd o) := ⟨rfl, rfl⟩

theorem strtImm (c : Cond) (u : Bool) (rn : Reg) (rd : Reg) (off : BitVec 12) : Statement (.strtImm c u rn rd off) := ⟨rfl, rfl⟩

theorem strtReg (c : Cond) (u : Bool) (rn : Reg) (rd : Reg) (o : ImmShift) : Statement (.strtReg c u rn rd o) := ⟨rfl, rfl⟩

theorem strbtImm (c : Cond) (u : Bool) (rn : Reg) (rd : Reg) (off : BitVec 12) : Statement (.strbtImm c u rn rd off) := ⟨rfl, rfl⟩

theorem strbtReg (c : Cond) (u : Bool) (rn : Reg) (rd : Reg) (o : ImmShift) : Statement (.strbtReg c u rn rd o) := ⟨rfl, rfl⟩

theorem ldrImm (c : Cond) (m : Idx) (rn : Reg) (rd : Reg) (off : BitVec 12) : Statement (.ldrImm c m rn rd off) := ⟨rfl, rfl⟩

theorem ldrReg (c : Cond) (m : Idx) (rn : Reg) (rd : Reg) (o : ImmShift) : Statement (.ldrReg c m rn rd o) := ⟨rfl, rfl⟩

theorem ldrbImm (c : Cond) (m : Idx) (rn : Reg) (rd : Reg) (off : BitVec 12) : Statement (.ldrbImm c m rn rd off) := ⟨rfl, rfl⟩

theorem ldrbReg (c : Cond) (m : Idx) (rn : Reg) (rd : Reg) (o : ImmShift) : Statement (.ldrbReg c m rn rd o) := ⟨rfl, rfl⟩

theorem strImm (c : Cond) (m : Idx) (rn : Reg) (rd : Reg) (off : BitVec 12) : Statement (.strImm c m rn rd off) := ⟨rfl, rfl⟩

theorem strReg (c : Cond) (m : Idx) (rn : Reg) (rd : Reg) (o : ImmShift) : Statement (.strReg c m rn rd o) := ⟨rfl, rfl⟩

theorem strbImm (c : Cond) (m : Idx) (rn : Reg) (rd : Reg) (off : BitVec 12) : Statement (.strbImm c m rn rd off) := ⟨rfl, rfl⟩

theorem strbReg (c : Cond) (m : Idx) (rn : Reg) (rd : Reg) (o : ImmShift) : Statement (.strbReg c m rn rd o) := ⟨rfl, rfl⟩

theorem undefMedia (c : Cond) : Statement (.undefMedia c) := ⟨rfl, rfl⟩

theorem ldmRet (c : Cond) (m : Idx) (rn : Reg) (list : BitVec 16) : Statement (.ldmRet c m rn list) := ⟨rfl, rfl⟩

theorem ldmUser (c : Cond) (m : Idx) (rn : Reg) (list : BitVec 16) : Statement (.ldmUser c m rn list) := ⟨rfl, rfl⟩

theorem stmUser (c : Cond) (m : Idx) (rn : Reg) (list : BitVec 16) : Statement (.stmUser c m rn list) := ⟨rfl, rfl⟩

theorem ldm (c : Cond) (m : Idx) (rn : Reg) (list : BitVec 16) : Statement (.ldm c m rn list) := ⟨rfl, rfl⟩

theorem stm (c : Cond) (m : Idx) (rn : Reg) (list : BitVec 16) : Statement (.stm c m rn list) := ⟨rfl, rfl⟩

theorem b (c : Cond) (off : BitVec 24) : Statement (.b c off) := ⟨rfl, rfl⟩

theorem bl (c : Cond) (off : BitVec 24) : Statement (.bl c off) := ⟨rfl, rfl⟩

theorem coprocXfer (c : Cond) : Statement (.coprocXfer c) := ⟨rfl, rfl⟩

theorem coprocOp (c : Cond) : Statement (.coprocOp c) := ⟨rfl, rfl⟩

theorem swi (c : Cond) (comment : BitVec 24) : Statement (.swi c comment) := ⟨rfl, rfl⟩

theorem tLslImm (off : BitVec 5) (rs : LoReg) (rd : LoReg) : Statement (.tLslImm off rs rd) := ⟨rfl, rfl⟩

theorem tLsrImm (off : BitVec 5) (rs : LoReg) (rd : LoReg) : Statement (.tLsrImm off rs rd) := ⟨rfl, rfl⟩

theorem tAsrImm (off : BitVec 5) (rs : LoReg) (rd : LoReg) : Statement (.tAsrImm off rs rd) := ⟨rfl, rfl⟩

theorem tAddReg (rn : LoReg) (rs : LoReg) (rd : LoReg) : Statement (.tAddReg rn rs rd) := ⟨rfl, rfl⟩

theorem tSubReg (rn : LoReg) (rs : LoReg) (rd : LoReg) : Statement (.tSubReg rn rs rd) := ⟨rfl, rfl⟩

theorem tAddImm3 (off : BitVec 3) (rs : LoReg) (rd : LoReg) : Statement (.tAddImm3 off rs rd) := ⟨rfl, rfl⟩

theorem tSubImm3 (off : BitVec 3) (rs : LoReg) (rd : LoReg) : Statement (.tSubImm3 off rs rd) := ⟨rfl, rfl⟩

theorem tMovImm (rd : LoReg) (off : BitVec 8) : Statement (.tMovImm rd off) := ⟨rfl, rfl⟩

theorem tCmpImm (rd : LoReg) (off : BitVec 8) : Statement (.tCmpImm rd off) := ⟨rfl, rfl⟩

theorem tAddImm8 (rd : LoReg) (off : BitVec 8) : Statement (.tAddImm8 rd off) := ⟨rfl, rfl⟩

theorem tSubImm8 (rd : LoReg) (off : BitVec 8) : Statement (.tSubImm8 rd off) := ⟨rfl, rfl⟩

theorem tAnd (rs : LoReg) (rd : LoReg) : Statement (.tAnd rs rd) := ⟨rfl, rfl⟩

theorem tEor (rs : LoReg) (rd : LoReg) : Statement (.tEor rs rd) := ⟨rfl, rfl⟩

theorem tLsl (rs : LoReg) (rd : LoReg) : Statement (.tLsl rs rd) := ⟨rfl, rfl⟩

theorem tLsr (rs : LoReg) (rd : LoReg) : Statement (.tLsr rs rd) := ⟨rfl, rfl⟩

theorem tAsr (rs : LoReg) (rd : LoReg) : Statement (.tAsr rs rd) := ⟨rfl, rfl⟩

theorem tAdc (rs : LoReg) (rd : LoReg) : Statement (.tAdc rs rd) := ⟨rfl, rfl⟩

theorem tSbc (rs : LoReg) (rd : LoReg) : Statement (.tSbc rs rd) := ⟨rfl, rfl⟩

theorem tRor (rs : LoReg) (rd : LoReg) : Statement (.tRor rs rd) := ⟨rfl, rfl⟩

theorem tTst (rs : LoReg) (rd : LoReg) : Statement (.tTst rs rd) := ⟨rfl, rfl⟩

theorem tNeg (rs : LoReg) (rd : LoReg) : Statement (.tNeg rs rd) := ⟨rfl, rfl⟩

theorem tCmp (rs : LoReg) (rd : LoReg) : Statement (.tCmp rs rd) := ⟨rfl, rfl⟩

theorem tCmn (rs : LoReg) (rd : LoReg) : Statement (.tCmn rs rd) := ⟨rfl, rfl⟩

theorem tOrr (rs : LoReg) (rd : LoReg) : Statement (.tOrr rs rd) := ⟨rfl, rfl⟩

theorem tMul (rs : LoReg) (rd : LoReg) : Statement (.tMul rs rd) := ⟨rfl, rfl⟩

theorem tBic (rs : LoReg) (rd : LoReg) : Statement (.tBic rs rd) := ⟨rfl, rfl⟩

theorem tMvn (rs : LoReg) (rd : LoReg) : Statement (.tMvn rs rd) := ⟨rfl, rfl⟩

theorem tAddHi (d : Reg) (m : Reg) : Statement (.tAddHi d m) := ⟨rfl, rfl⟩

theorem tCmpHi (d : Reg) (m : Reg) : Statement (.tCmpHi d m) := ⟨rfl, rfl⟩

theorem tMovHi (d : Reg) (m : Reg) : Statement (.tMovHi d m) := ⟨rfl, rfl⟩

theorem tBx (h1 : Bool) (m : Reg) : Statement (.tBx h1 m) := ⟨rfl, rfl⟩

theorem tLdrPc (rd : LoReg) (off : BitVec 8) : Statement (.tLdrPc rd off) := ⟨rfl, rfl⟩

theorem tStrReg (ro : LoReg) (rb : LoReg) (rd : LoReg) : Statement (.tStrReg ro rb rd) := ⟨rfl, rfl⟩

theorem tStrhReg (ro : LoReg) (rb : LoReg) (rd : LoReg) : Statement (.tStrhReg ro rb rd) := ⟨rfl, rfl⟩

theorem tStrbReg (ro : LoReg) (rb : LoReg) (rd : LoReg) : Statement (.tStrbReg ro rb rd) := ⟨rfl, rfl⟩

theorem tLdsbReg (ro : LoReg) (rb : LoReg) (rd : LoReg) : Statement (.tLdsbReg ro rb rd) := ⟨rfl, rfl⟩

theorem tLdrReg (ro : LoReg) (rb : LoReg) (rd : LoReg) : Statement (.tLdrReg ro rb rd) := ⟨rfl, rfl⟩

theorem tLdrhReg (ro : LoReg) (rb : LoReg) (rd : LoReg) : Statement (.tLdrhReg ro rb rd) := ⟨rfl, rfl⟩

theorem tLdrbReg (ro : LoReg) (rb : LoReg) (rd : LoReg) : Statement (.tLdrbReg ro rb rd) := ⟨rfl, rfl⟩

theorem tLdshReg (ro : LoReg) (rb : LoReg) (rd : LoReg) : Statement (.tLdshReg ro rb rd) := ⟨rfl, rfl⟩

theorem tStrImm (off : BitVec 5) (rb : LoReg) (rd : LoReg) : Statement (.tStrImm off rb rd) := ⟨rfl, rfl⟩

theorem tLdrImm (off : BitVec 5) (rb : LoReg) (rd : LoReg) : Statement (.tLdrImm off rb rd) := ⟨rfl, rfl⟩

theorem tStrbImm (off : BitVec 5) (rb : LoReg) (rd : LoReg) : Statement (.tStrbImm off rb rd) := ⟨rfl, rfl⟩

theorem tLdrbImm (off : BitVec 5) (rb : LoReg) (rd : LoReg) : Statement (.tLdrbImm off rb rd) := ⟨rfl, rfl⟩

theorem tStrhImm (off : BitVec 5) (rb : LoReg) (rd : LoReg) : Statement (.tStrhImm off rb rd) := ⟨rfl, rfl⟩

theorem tLdrhImm (off : BitVec 5) (rb : LoReg) (rd : LoReg) : Statement (.tLdrhImm off rb rd) := ⟨rfl, rfl⟩

theorem tStrSp (rd : LoReg) (off : BitVec 8) : Statement (.tStrSp rd off) := ⟨rfl, rfl⟩

theorem tLdrSp (rd : LoReg) (off : BitVec 8) : Statement (.tLdrSp rd off) := ⟨rfl, rfl⟩

theorem tAddPc (rd : LoReg) (off : BitVec 8) : Statement (.tAddPc rd off) := ⟨rfl, rfl⟩

theorem tAddSp (rd : LoReg) (off : BitVec 8) : Statement (.tAddSp rd off) := ⟨rfl, rfl⟩

theorem tAddSpImm (s : Bool) (off : BitVec 7) : Statement (.tAddSpImm s off) := ⟨rfl, rfl⟩

theorem tPush (r : Bool) (list : BitVec 8) : Statement (.tPush r list) := ⟨rfl, rfl⟩

theorem tPop (r : Bool) (list : BitVec 8) : Statement (.tPop r list) := ⟨rfl, rfl⟩

theorem tUndef1011 : Statement (.tUndef1011) := ⟨rfl, rfl⟩

theorem tStmia (rb : LoReg) (list : BitVec 8) : Statement (.tStmia rb list) := ⟨rfl, rfl⟩

theorem tLdmia (rb : LoReg) (list : BitVec 8) : Statement (.tLdmia rb list) := ⟨rfl, rfl⟩

theorem tSwi (comment : BitVec 8) : Statement (.tSwi comment) := ⟨rfl, rfl⟩

theorem tUndefDe : Statement (.tUndefDe) := ⟨rfl, rfl⟩

theorem tBCond (c : Cond) (off : BitVec 8) : Statement (.tBCond c off) := ⟨rfl, rfl⟩

theorem tB (off : BitVec 11) : Statement (.tB off) := ⟨rfl, rfl⟩

theorem tUndefE8 : Statement (.tUndefE8) := ⟨rfl, rfl⟩

theorem tBlHi (off : BitVec 11) : Statement (.tBlHi off) := ⟨rfl, rfl⟩

theorem tBlLo (off : BitVec 11) : Statement (.tBlLo off) := ⟨rfl, rfl⟩

end Sys2Proof.Laws.EncodeLength
end

