-- ==== Sys2Proof/Tests/Slice0.lean ====
section
/-! SUPPORT. Tests of single decodes and steps, each expected value from the spec (the vectors of 95_test_vectors.md, the encodings of
30_encoding.md), the smoke test of well-formedness, and a witness for each statement that has hypotheses. -/

namespace Sys2Proof.Tests

open Sys2Proof.Machine

/-- A small state: the configuration, CPSR, the program counter, registers by number in the current mode, words of memory, the code to run. -/
def state (c : Config) (cpsr pc : Word) (rs : List (Reg × Word)) (ws : List (Nat × Word)) (code : Code) : State :=
  let s := { State.resetWith c defaultCosts defaultCosts [] with cpsr := cpsr }
  let t := (rs.foldl (fun (u : State) (x : Reg × Word) => u.setReg x.1 x.2) s).setPc pc
  t.setMem ((ws.foldl (fun (m : Memory) (x : Nat × Word) => m.store x.1 (Code.arm x.2).bytes) []).store pc.toNat code.bytes)

/-- R10's defaults, but for the other value of `UNPREDICTABLE_POLICY`. -/
def effectConfig : Config := { specConfig with unpredictable := .arm7tdmi }

/-- What a result leaves: CPSR, the program counter, the cycles, and the registers and words asked for. -/
def after (r : Result) (rs : List Reg) (ws : List Word) : Option (Word × Word × Nat × List Word × List Word) :=
  match r with
  | .next t => some (t.cpsr, t.pc, t.cycles.toNat, rs.map (fun i => t.regs.get (phys t.mode i)), ws.map t.read32)
  | .fault _ => none
  | .refused _ => none

/-! ## Well-formedness: an ill-formed term for each check -/

theorem test_wf_single_transfers :
    [Instr.ldrImm .al ⟨false, true, true⟩ 1 0 4, .ldrReg .al ⟨false, true, true⟩ 1 0 ⟨2, .lsl, 0⟩, .ldrbImm .al ⟨false, true, true⟩ 1 0 4,
      .ldrbReg .al ⟨false, true, true⟩ 1 0 ⟨2, .lsl, 0⟩, .strImm .al ⟨false, true, true⟩ 1 0 4, .strReg .al ⟨false, true, true⟩ 1 0 ⟨2, .lsl, 0⟩,
      .strbImm .al ⟨false, true, true⟩ 1 0 4, .strbReg .al ⟨false, true, true⟩ 1 0 ⟨2, .lsl, 0⟩].any Instr.wf = false := by decide

theorem test_wf_ldm_return : (Instr.ldmRet .al ⟨false, true, false⟩ 0 0x7FFF).wf = false := by decide

theorem test_wf_ldm_user : (Instr.ldmUser .al ⟨false, true, false⟩ 0 0x8000).wf = false := by decide

theorem test_wf_t_b_cond : (Instr.tBCond .al 0).wf = false ∧ (Instr.tBCond .nv 0).wf = false := by decide

theorem test_wf_accepts : (Instr.ldrImm .al ⟨true, true, true⟩ 1 0 4).wf = true ∧ (Instr.ldrtImm .al true 1 0 4).wf = true ∧
    (Instr.ldmRet .al ⟨false, true, false⟩ 0 0x8000).wf = true ∧ (Instr.ldmUser .al ⟨false, true, false⟩ 0 0x7FFF).wf = true ∧
    (Instr.tBCond .le 0).wf = true := by decide

/-! ## Decoding: one word of every row, its fixed bits and operand fields written where 30_encoding.md R141 to R160 place them -/

theorem test_decode_arm_multiplies :
    decodeTableWord 32 0xE015099C = some (.mul .al true 5 9 12) ∧
    decodeTableWord 32 0x1025399C = some (.mla .ne false 5 3 9 12) ∧
    decodeTableWord 32 0x2083599C = some (.umull .cs false 3 5 9 12) ∧
    decodeTableWord 32 0xE0B3599C = some (.umlal .al true 3 5 9 12) ∧
    decodeTableWord 32 0x30C3599C = some (.smull .cc false 3 5 9 12) ∧
    decodeTableWord 32 0xE0F3599C = some (.smlal .al true 3 5 9 12) := by
  decide

theorem test_decode_arm_undefined :
    decodeTableWord 32 0xE0400090 = some (.undefMul .al) ∧
    decodeTableWord 32 0x51200090 = some (.undefSwp .pl) ∧
    decodeTableWord 32 0xE00000D0 = some (.undefHalfwordStore .al) ∧
    decodeTableWord 32 0xE1200070 = some (.undefMisc .al) ∧
    decodeTableWord 32 0xE3400000 = some (.undefImmCmp .al) ∧
    decodeTableWord 32 0xD6000010 = some (.undefMedia .le) ∧
    decodeTableWord 32 0x1C000000 = some (.coprocXfer .ne) ∧
    decodeTableWord 32 0xEE000000 = some (.coprocOp .al) := by
  decide

theorem test_decode_arm_swaps :
    decodeTableWord 32 0x4103509C = some (.swp .mi 3 5 12) ∧
    decodeTableWord 32 0xE143509C = some (.swpb .al 3 5 12) := by
  decide

theorem test_decode_arm_halfword_transfers :
    decodeTableWord 32 0xE18350BC = some (.strhReg .al ⟨true, true, false⟩ 3 5 12) ∧
    decodeTableWord 32 0x60635AB5 = some (.strhImm .vs ⟨false, false, true⟩ 3 5 0xA5) ∧
    decodeTableWord 32 0xE11350BC = some (.ldrhReg .al ⟨true, false, false⟩ 3 5 12) ∧
    decodeTableWord 32 0x70D35AB5 = some (.ldrhImm .vc ⟨false, true, false⟩ 3 5 0xA5) ∧
    decodeTableWord 32 0xE1B350DC = some (.ldrsbReg .al ⟨true, true, true⟩ 3 5 12) ∧
    decodeTableWord 32 0x80535AD5 = some (.ldrsbImm .hi ⟨false, false, false⟩ 3 5 0xA5) ∧
    decodeTableWord 32 0xE11350FC = some (.ldrshReg .al ⟨true, false, false⟩ 3 5 12) ∧
    decodeTableWord 32 0x90F35AF5 = some (.ldrshImm .ls ⟨false, true, true⟩ 3 5 0xA5) := by
  decide

theorem test_decode_arm_status_transfers :
    decodeTableWord 32 0xA1005000 = some (.mrs .ge false 5) ∧
    decodeTableWord 32 0xE129000C = some (.msrReg .al false 9 12) ∧
    decodeTableWord 32 0xC32906A5 = some (.msrImm .gt false 9 ⟨6, 0xA5⟩) := by
  decide

theorem test_decode_arm_branches :
    decodeTableWord 32 0xB120001C = some (.bx .lt 12) ∧
    decodeTableWord 32 0x0AA5C3F1 = some (.b .eq 0xA5C3F1) ∧
    decodeTableWord 32 0xEBA5C3F1 = some (.bl .al 0xA5C3F1) ∧
    decodeTableWord 32 0x2FA5C3F1 = some (.swi .cs 0xA5C3F1) := by
  decide

theorem test_decode_arm_data_processing_immediate :
    decodeTableWord 32 0xD20356A5 = some (.andImm .le false 3 5 ⟨6, 0xA5⟩) ∧
    decodeTableWord 32 0xE23356A5 = some (.eorImm .al true 3 5 ⟨6, 0xA5⟩) ∧
    decodeTableWord 32 0x024356A5 = some (.subImm .eq false 3 5 ⟨6, 0xA5⟩) ∧
    decodeTableWord 32 0xE27356A5 = some (.rsbImm .al true 3 5 ⟨6, 0xA5⟩) ∧
    decodeTableWord 32 0x328356A5 = some (.addImm .cc false 3 5 ⟨6, 0xA5⟩) ∧
    decodeTableWord 32 0xE2B356A5 = some (.adcImm .al true 3 5 ⟨6, 0xA5⟩) ∧
    decodeTableWord 32 0x62C356A5 = some (.sbcImm .vs false 3 5 ⟨6, 0xA5⟩) ∧
    decodeTableWord 32 0xE2F356A5 = some (.rscImm .al true 3 5 ⟨6, 0xA5⟩) ∧
    decodeTableWord 32 0x931306A5 = some (.tstImm .ls 3 ⟨6, 0xA5⟩) ∧
    decodeTableWord 32 0xE33306A5 = some (.teqImm .al 3 ⟨6, 0xA5⟩) ∧
    decodeTableWord 32 0xC35306A5 = some (.cmpImm .gt 3 ⟨6, 0xA5⟩) ∧
    decodeTableWord 32 0xE37306A5 = some (.cmnImm .al 3 ⟨6, 0xA5⟩) ∧
    decodeTableWord 32 0xF38356A5 = some (.orrImm .nv false 3 5 ⟨6, 0xA5⟩) ∧
    decodeTableWord 32 0xE3B056A5 = some (.movImm .al true 5 ⟨6, 0xA5⟩) ∧
    decodeTableWord 32 0x23C356A5 = some (.bicImm .cs false 3 5 ⟨6, 0xA5⟩) ∧
    decodeTableWord 32 0xE3F056A5 = some (.mvnImm .al true 5 ⟨6, 0xA5⟩) := by
  decide

theorem test_decode_arm_data_processing_immediate_shift :
    decodeTableWord 32 0xE01359EC = some (.andImmShift .al true 3 5 ⟨12, .ror, 19⟩) ∧
    decodeTableWord 32 0xF02359CC = some (.eorImmShift .nv false 3 5 ⟨12, .asr, 19⟩) ∧
    decodeTableWord 32 0xE05359AC = some (.subImmShift .al true 3 5 ⟨12, .lsr, 19⟩) ∧
    decodeTableWord 32 0x2063598C = some (.rsbImmShift .cs false 3 5 ⟨12, .lsl, 19⟩) ∧
    decodeTableWord 32 0xE09359EC = some (.addImmShift .al true 3 5 ⟨12, .ror, 19⟩) ∧
    decodeTableWord 32 0x50A359CC = some (.adcImmShift .pl false 3 5 ⟨12, .asr, 19⟩) ∧
    decodeTableWord 32 0xE0D359AC = some (.sbcImmShift .al true 3 5 ⟨12, .lsr, 19⟩) ∧
    decodeTableWord 32 0x80E3598C = some (.rscImmShift .hi false 3 5 ⟨12, .lsl, 19⟩) ∧
    decodeTableWord 32 0xE11309EC = some (.tstImmShift .al 3 ⟨12, .ror, 19⟩) ∧
    decodeTableWord 32 0xB13309CC = some (.teqImmShift .lt 3 ⟨12, .asr, 19⟩) ∧
    decodeTableWord 32 0xE15309AC = some (.cmpImmShift .al 3 ⟨12, .lsr, 19⟩) ∧
    decodeTableWord 32 0xE173098C = some (.cmnImmShift .al 3 ⟨12, .lsl, 19⟩) ∧
    decodeTableWord 32 0xE19359EC = some (.orrImmShift .al true 3 5 ⟨12, .ror, 19⟩) ∧
    decodeTableWord 32 0x11A059CC = some (.movImmShift .ne false 5 ⟨12, .asr, 19⟩) ∧
    decodeTableWord 32 0xE1D359AC = some (.bicImmShift .al true 3 5 ⟨12, .lsr, 19⟩) ∧
    decodeTableWord 32 0x41E0598C = some (.mvnImmShift .mi false 5 ⟨12, .lsl, 19⟩) := by
  decide

theorem test_decode_arm_data_processing_register_shift :
    decodeTableWord 32 0xE003591C = some (.andRegShift .al false 3 5 ⟨12, .lsl, 9⟩) ∧
    decodeTableWord 32 0xE033597C = some (.eorRegShift .al true 3 5 ⟨12, .ror, 9⟩) ∧
    decodeTableWord 32 0x1043595C = some (.subRegShift .ne false 3 5 ⟨12, .asr, 9⟩) ∧
    decodeTableWord 32 0xE073593C = some (.rsbRegShift .al true 3 5 ⟨12, .lsr, 9⟩) ∧
    decodeTableWord 32 0x4083591C = some (.addRegShift .mi false 3 5 ⟨12, .lsl, 9⟩) ∧
    decodeTableWord 32 0xE0B3597C = some (.adcRegShift .al true 3 5 ⟨12, .ror, 9⟩) ∧
    decodeTableWord 32 0x70C3595C = some (.sbcRegShift .vc false 3 5 ⟨12, .asr, 9⟩) ∧
    decodeTableWord 32 0xE0F3593C = some (.rscRegShift .al true 3 5 ⟨12, .lsr, 9⟩) ∧
    decodeTableWord 32 0xA113091C = some (.tstRegShift .ge 3 ⟨12, .lsl, 9⟩) ∧
    decodeTableWord 32 0xE133097C = some (.teqRegShift .al 3 ⟨12, .ror, 9⟩) ∧
    decodeTableWord 32 0xD153095C = some (.cmpRegShift .le 3 ⟨12, .asr, 9⟩) ∧
    decodeTableWord 32 0xE173093C = some (.cmnRegShift .al 3 ⟨12, .lsr, 9⟩) ∧
    decodeTableWord 32 0x0183591C = some (.orrRegShift .eq false 3 5 ⟨12, .lsl, 9⟩) ∧
    decodeTableWord 32 0xE1B0597C = some (.movRegShift .al true 5 ⟨12, .ror, 9⟩) ∧
    decodeTableWord 32 0x31C3595C = some (.bicRegShift .cc false 3 5 ⟨12, .asr, 9⟩) ∧
    decodeTableWord 32 0xE1F0593C = some (.mvnRegShift .al true 5 ⟨12, .lsr, 9⟩) := by
  decide

theorem test_decode_arm_user_transfers :
    decodeTableWord 32 0x54B35A5C = some (.ldrtImm .pl true 3 5 0xA5C) ∧
    decodeTableWord 32 0xE6B359EC = some (.ldrtReg .al true 3 5 ⟨12, .ror, 19⟩) ∧
    decodeTableWord 32 0x64735A5C = some (.ldrbtImm .vs false 3 5 0xA5C) ∧
    decodeTableWord 32 0xE67359AC = some (.ldrbtReg .al false 3 5 ⟨12, .lsr, 19⟩) ∧
    decodeTableWord 32 0x74A35A5C = some (.strtImm .vc true 3 5 0xA5C) ∧
    decodeTableWord 32 0xE6A359EC = some (.strtReg .al true 3 5 ⟨12, .ror, 19⟩) ∧
    decodeTableWord 32 0x84635A5C = some (.strbtImm .hi false 3 5 0xA5C) ∧
    decodeTableWord 32 0xE66359AC = some (.strbtReg .al false 3 5 ⟨12, .lsr, 19⟩) := by
  decide

theorem test_decode_arm_single_transfers :
    decodeTableWord 32 0x94935A5C = some (.ldrImm .ls ⟨false, true, false⟩ 3 5 0xA5C) ∧
    decodeTableWord 32 0xE79359EC = some (.ldrReg .al ⟨true, true, false⟩ 3 5 ⟨12, .ror, 19⟩) ∧
    decodeTableWord 32 0xA4535A5C = some (.ldrbImm .ge ⟨false, false, false⟩ 3 5 0xA5C) ∧
    decodeTableWord 32 0xE75359AC = some (.ldrbReg .al ⟨true, false, false⟩ 3 5 ⟨12, .lsr, 19⟩) ∧
    decodeTableWord 32 0xB4835A5C = some (.strImm .lt ⟨false, true, false⟩ 3 5 0xA5C) ∧
    decodeTableWord 32 0xE78359EC = some (.strReg .al ⟨true, true, false⟩ 3 5 ⟨12, .ror, 19⟩) ∧
    decodeTableWord 32 0xC4435A5C = some (.strbImm .gt ⟨false, false, false⟩ 3 5 0xA5C) ∧
    decodeTableWord 32 0xE74359AC = some (.strbReg .al ⟨true, false, false⟩ 3 5 ⟨12, .lsr, 19⟩) := by
  decide

theorem test_decode_arm_block_transfers :
    decodeTableWord 32 0xE9D3A5C3 = some (.ldmRet .al ⟨true, true, false⟩ 3 0xa5c3) ∧
    decodeTableWord 32 0xE87325C3 = some (.ldmUser .al ⟨false, false, true⟩ 3 0x25c3) ∧
    decodeTableWord 32 0xE943A5C3 = some (.stmUser .al ⟨true, false, false⟩ 3 0xa5c3) ∧
    decodeTableWord 32 0xF8B3A5C3 = some (.ldm .nv ⟨false, true, true⟩ 3 0xa5c3) ∧
    decodeTableWord 32 0xE983A5C3 = some (.stm .al ⟨true, true, false⟩ 3 0xa5c3) := by
  decide

theorem test_decode_thumb_formats_1_to_3 :
    decodeTableWord 16 0x04D5 = some (.tLslImm 0x13 2 5) ∧
    decodeTableWord 16 0x0CD5 = some (.tLsrImm 0x13 2 5) ∧
    decodeTableWord 16 0x14D5 = some (.tAsrImm 0x13 2 5) ∧
    decodeTableWord 16 0x19D5 = some (.tAddReg 7 2 5) ∧
    decodeTableWord 16 0x1BD5 = some (.tSubReg 7 2 5) ∧
    decodeTableWord 16 0x1D95 = some (.tAddImm3 0x6 2 5) ∧
    decodeTableWord 16 0x1F95 = some (.tSubImm3 0x6 2 5) ∧
    decodeTableWord 16 0x26A5 = some (.tMovImm 6 0xa5) ∧
    decodeTableWord 16 0x2EA5 = some (.tCmpImm 6 0xa5) ∧
    decodeTableWord 16 0x36A5 = some (.tAddImm8 6 0xa5) ∧
    decodeTableWord 16 0x3EA5 = some (.tSubImm8 6 0xa5) := by
  decide

theorem test_decode_thumb_format_4 :
    decodeTableWord 16 0x4015 = some (.tAnd 2 5) ∧
    decodeTableWord 16 0x4055 = some (.tEor 2 5) ∧
    decodeTableWord 16 0x4095 = some (.tLsl 2 5) ∧
    decodeTableWord 16 0x40D5 = some (.tLsr 2 5) ∧
    decodeTableWord 16 0x4115 = some (.tAsr 2 5) ∧
    decodeTableWord 16 0x4155 = some (.tAdc 2 5) ∧
    decodeTableWord 16 0x4195 = some (.tSbc 2 5) ∧
    decodeTableWord 16 0x41D5 = some (.tRor 2 5) ∧
    decodeTableWord 16 0x4215 = some (.tTst 2 5) ∧
    decodeTableWord 16 0x4255 = some (.tNeg 2 5) ∧
    decodeTableWord 16 0x4295 = some (.tCmp 2 5) ∧
    decodeTableWord 16 0x42D5 = some (.tCmn 2 5) ∧
    decodeTableWord 16 0x4315 = some (.tOrr 2 5) ∧
    decodeTableWord 16 0x4355 = some (.tMul 2 5) ∧
    decodeTableWord 16 0x4395 = some (.tBic 2 5) ∧
    decodeTableWord 16 0x43D5 = some (.tMvn 2 5) := by
  decide

theorem test_decode_thumb_format_5 :
    decodeTableWord 16 0x44F4 = some (.tAddHi 12 14) ∧
    decodeTableWord 16 0x45F2 = some (.tCmpHi 10 14) ∧
    decodeTableWord 16 0x46F3 = some (.tMovHi 11 14) ∧
    decodeTableWord 16 0x4770 = some (.tBx false 14) := by
  decide

theorem test_decode_thumb_single_transfers :
    decodeTableWord 16 0x4EA5 = some (.tLdrPc 6 0xa5) ∧
    decodeTableWord 16 0x51D5 = some (.tStrReg 7 2 5) ∧
    decodeTableWord 16 0x53D5 = some (.tStrhReg 7 2 5) ∧
    decodeTableWord 16 0x55D5 = some (.tStrbReg 7 2 5) ∧
    decodeTableWord 16 0x57D5 = some (.tLdsbReg 7 2 5) ∧
    decodeTableWord 16 0x59D5 = some (.tLdrReg 7 2 5) ∧
    decodeTableWord 16 0x5BD5 = some (.tLdrhReg 7 2 5) ∧
    decodeTableWord 16 0x5DD5 = some (.tLdrbReg 7 2 5) ∧
    decodeTableWord 16 0x5FD5 = some (.tLdshReg 7 2 5) ∧
    decodeTableWord 16 0x64D5 = some (.tStrImm 0x13 2 5) ∧
    decodeTableWord 16 0x6CD5 = some (.tLdrImm 0x13 2 5) ∧
    decodeTableWord 16 0x74D5 = some (.tStrbImm 0x13 2 5) ∧
    decodeTableWord 16 0x7CD5 = some (.tLdrbImm 0x13 2 5) ∧
    decodeTableWord 16 0x84D5 = some (.tStrhImm 0x13 2 5) ∧
    decodeTableWord 16 0x8CD5 = some (.tLdrhImm 0x13 2 5) ∧
    decodeTableWord 16 0x96A5 = some (.tStrSp 6 0xa5) ∧
    decodeTableWord 16 0x9EA5 = some (.tLdrSp 6 0xa5) := by
  decide

theorem test_decode_thumb_formats_12_and_13 :
    decodeTableWord 16 0xA6A5 = some (.tAddPc 6 0xa5) ∧
    decodeTableWord 16 0xAEA5 = some (.tAddSp 6 0xa5) ∧
    decodeTableWord 16 0xB0E5 = some (.tAddSpImm true 0x65) := by
  decide

theorem test_decode_thumb_block_transfers :
    decodeTableWord 16 0xB5A5 = some (.tPush true 0xa5) ∧
    decodeTableWord 16 0xBCA5 = some (.tPop false 0xa5) ∧
    decodeTableWord 16 0xC6A5 = some (.tStmia 6 0xa5) ∧
    decodeTableWord 16 0xCEA5 = some (.tLdmia 6 0xa5) := by
  decide

theorem test_decode_thumb_undefined :
    decodeTableWord 16 0xB100 = some .tUndef1011 ∧
    decodeTableWord 16 0xDE00 = some .tUndefDe ∧
    decodeTableWord 16 0xE800 = some .tUndefE8 := by
  decide

theorem test_decode_thumb_branches :
    decodeTableWord 16 0xDFA5 = some (.tSwi 0xa5) ∧
    decodeTableWord 16 0xDBA5 = some (.tBCond .lt 0xa5) ∧
    decodeTableWord 16 0xE5A3 = some (.tB 0x5a3) ∧
    decodeTableWord 16 0xF5A3 = some (.tBlHi 0x5a3) ∧
    decodeTableWord 16 0xFDA3 = some (.tBlLo 0x5a3) := by
  decide

/-! ## Steps: the vectors of 95_test_vectors.md section 3 -/

/-! Section 3.3. -/

theorem test_and : after (step (state specConfig 0x1F 0x8000000 [(1, 0xF0F0F0F0), (2, 0xF0F0F0F)] [] (.arm 0xE0110002)))
    [0] [] =
    some (0x4000001F, 0x8000004, 6, [0], []) := by decide

theorem test_eor : after (step (state specConfig 0x1F 0x8000000 [(1, 0xFFFF0000), (2, 0xFFFFFFFF)] [] (.arm 0xE0310002)))
    [0] [] =
    some (0x1F, 0x8000004, 6, [0xFFFF], []) := by decide

theorem test_sub : after (step (state specConfig 0x1F 0x8000000 [(1, 0), (2, 1)] [] (.arm 0xE0510002)))
    [0] [] =
    some (0x8000001F, 0x8000004, 6, [0xFFFFFFFF], []) := by decide

theorem test_rsb : after (step (state specConfig 0x1F 0x8000000 [(1, 1)] [] (.arm 0xE2710000)))
    [0] [] =
    some (0x8000001F, 0x8000004, 6, [0xFFFFFFFF], []) := by decide

theorem test_add_overflow : after (step (state specConfig 0x1F 0x8000000 [(1, 0x7FFFFFFF), (2, 1)] [] (.arm 0xE0910002)))
    [0] [] =
    some (0x9000001F, 0x8000004, 6, [0x80000000], []) := by decide

theorem test_add_carry : after (step (state specConfig 0x1F 0x8000000 [(1, 0xFFFFFFFF), (2, 1)] [] (.arm 0xE0910002)))
    [0] [] =
    some (0x6000001F, 0x8000004, 6, [0], []) := by decide

theorem test_adc : after (step (state specConfig 0x2000001F 0x8000000 [(1, 0xFFFFFFFF), (2, 0)] [] (.arm 0xE0B10002)))
    [0] [] =
    some (0x6000001F, 0x8000004, 6, [0], []) := by decide

theorem test_sbc : after (step (state specConfig 0x2000001F 0x8000000 [(1, 5), (2, 3)] [] (.arm 0xE0D10002)))
    [0] [] =
    some (0x2000001F, 0x8000004, 6, [2], []) := by decide

theorem test_rsc : after (step (state specConfig 0x2000001F 0x8000000 [(1, 3), (2, 5)] [] (.arm 0xE0F10002)))
    [0] [] =
    some (0x2000001F, 0x8000004, 6, [2], []) := by decide

theorem test_tst : after (step (state specConfig 0x1F 0x8000000 [(1, 0x80000000)] [] (.arm 0xE3110102)))
    [1] [] =
    some (0xA000001F, 0x8000004, 6, [0x80000000], []) := by decide

theorem test_teq : after (step (state specConfig 0x1F 0x8000000 [(1, 7), (2, 7)] [] (.arm 0xE1310002)))
    [0] [] =
    some (0x4000001F, 0x8000004, 6, [0], []) := by decide

theorem test_cmp : after (step (state specConfig 0x1F 0x8000000 [(1, 1), (2, 1)] [] (.arm 0xE1510002)))
    [0] [] =
    some (0x6000001F, 0x8000004, 6, [0], []) := by decide

theorem test_cmn : after (step (state specConfig 0x1F 0x8000000 [(1, 0xFFFFFFFF), (2, 1)] [] (.arm 0xE1710002)))
    [0] [] =
    some (0x6000001F, 0x8000004, 6, [0], []) := by decide

theorem test_orr : after (step (state specConfig 0x1F 0x8000000 [(1, 0), (2, 0x80000000)] [] (.arm 0xE1910202)))
    [0] [] =
    some (0x4000001F, 0x8000004, 6, [0], []) := by decide

theorem test_mov_lsr_zero : after (step (state specConfig 0x1F 0x8000000 [(1, 0x80000000)] [] (.arm 0xE1B00021)))
    [0] [] =
    some (0x6000001F, 0x8000004, 6, [0], []) := by decide

theorem test_mov_immediate : after (step (state specConfig 0x1F 0x8000000 [] [] (.arm 0xE3A008FF)))
    [0] [] =
    some (0x1F, 0x8000004, 6, [0xFF0000], []) := by decide

theorem test_mov_rrx : after (step (state specConfig 0x2000001F 0x8000000 [(1, 3)] [] (.arm 0xE1B00061)))
    [0] [] =
    some (0xA000001F, 0x8000004, 6, [0x80000001], []) := by decide

theorem test_bic : after (step (state specConfig 0x1F 0x8000000 [(1, 0xFF), (2, 0xF)] [] (.arm 0xE1D10002)))
    [0] [] =
    some (0x1F, 0x8000004, 6, [0xF0], []) := by decide

theorem test_mvn : after (step (state specConfig 0x1F 0x8000000 [(1, 0)] [] (.arm 0xE1F00001)))
    [0] [] =
    some (0x8000001F, 0x8000004, 6, [0xFFFFFFFF], []) := by decide

theorem test_add_pc : after (step (state specConfig 0x1F 0x8000000 [] [] (.arm 0xE28F0004)))
    [0] [] =
    some (0x1F, 0x8000004, 6, [0x800000C], []) := by decide

theorem test_mov_shift_by_register : after (step (state specConfig 0x1F 0x8000000 [(1, 1), (2, 0x20)] [] (.arm 0xE1B00211)))
    [0] [] =
    some (0x6000001F, 0x8000004, 7, [0], []) := by decide

theorem test_add_pc_by_register_plus12 : after (step (state ({ specConfig with pcStoreRead := .plus12 }) 0x1F 0x8000000 [(1, 0), (2, 0)] [] (.arm 0xE08F0211)))
    [0] [] =
    some (0x1F, 0x8000004, 7, [0x800000C], []) := by decide

/-! Section 3.4. -/

theorem test_msr_user : after (step (state specConfig 0x10 0x8000000 [(0, 0xD3)] [] (.arm 0xE129F000)))
    [] [] =
    some (0x10, 0x8000004, 6, [], []) := by decide

theorem test_msr_system : after (step (state specConfig 0x1F 0x8000000 [(0, 0xF0000013)] [] (.arm 0xE129F000)))
    [] [] =
    some (0xF0000013, 0x8000004, 6, [], []) := by decide

theorem test_msr_changes_t : after (step (state effectConfig 0x1F 0x8000000 [(0, 0x3F)] [] (.arm 0xE121F000)))
    [] [] =
    some (0x3F, 0x8000004, 6, [], []) := by decide

/-! Section 3.5. -/

theorem test_mul : after (step (state specConfig 0x1F 0x8000000 [(1, 6), (2, 7)] [] (.arm 0xE0000291)))
    [0] [] =
    some (0x1F, 0x8000004, 7, [0x2A], []) := by decide

theorem test_mul_rd_eq_rm : after (step (state effectConfig 0x1F 0x8000000 [(0, 3), (2, 4)] [] (.arm 0xE0000290)))
    [0] [] =
    some (0x1F, 0x8000004, 7, [0xC], []) := by decide

theorem test_mla : after (step (state specConfig 0x1F 0x8000000 [(1, 0xFFFFFFFF), (2, 2), (3, 5)] [] (.arm 0xE0203291)))
    [0] [] =
    some (0x1F, 0x8000004, 8, [3], []) := by decide

theorem test_umull : after (step (state specConfig 0x1F 0x8000000 [(2, 0xFFFFFFFF), (3, 0xFFFFFFFF)] [] (.arm 0xE0810392)))
    [0, 1] [] =
    some (0x1F, 0x8000004, 11, [1, 0xFFFFFFFE], []) := by decide

theorem test_smull : after (step (state specConfig 0x1F 0x8000000 [(2, 0xFFFFFFFF), (3, 0xFFFFFFFF)] [] (.arm 0xE0C10392)))
    [0, 1] [] =
    some (0x1F, 0x8000004, 8, [1, 0], []) := by decide

theorem test_umlal : after (step (state specConfig 0x1F 0x8000000 [(0, 0xFFFFFFFF), (2, 1), (3, 1)] [] (.arm 0xE0A10392)))
    [0, 1] [] =
    some (0x1F, 0x8000004, 9, [0, 1], []) := by decide

theorem test_smlal : after (step (state specConfig 0x1F 0x8000000 [(2, 0xFFFFFFFF), (3, 1)] [] (.arm 0xE0E10392)))
    [0, 1] [] =
    some (0x1F, 0x8000004, 9, [0xFFFFFFFF, 0xFFFFFFFF], []) := by decide

/-! Section 3.6. -/

theorem test_ldr : after (step (state specConfig 0x1F 0x8000000 [(1, 0x3000000)] [(0x3000000, 0x11223344), (0x3000004, 0x55667788)] (.arm 0xE5910001)))
    [0] [] =
    some (0x1F, 0x8000004, 8, [0x44112233], []) := by decide

theorem test_ldr_pre_indexed : after (step (state specConfig 0x1F 0x8000000 [(1, 0x3000000)] [(0x3000000, 0x11223344), (0x3000004, 0x55667788)] (.arm 0xE5B10004)))
    [0, 1] [] =
    some (0x1F, 0x8000004, 8, [0x55667788, 0x3000004], []) := by decide

theorem test_ldr_register : after (step (state specConfig 0x1F 0x8000000 [(1, 0x3000000), (2, 1)] [(0x3000000, 0x11223344), (0x3000004, 0x55667788)] (.arm 0xE7910102)))
    [0] [] =
    some (0x1F, 0x8000004, 8, [0x55667788], []) := by decide

theorem test_ldr_base_loaded : after (step (state effectConfig 0x1F 0x8000000 [(1, 0x3000000)] [(0x3000000, 0x11223344), (0x3000004, 0x55667788)] (.arm 0xE5B11004)))
    [1] [] =
    some (0x1F, 0x8000004, 8, [0x55667788], []) := by decide

theorem test_ldr_pc : after (step (state specConfig 0x1F 0x8000000 [(1, 0x3000000)] [(0x3000000, 0x8000101)] (.arm 0xE591F000)))
    [] [] =
    some (0x1F, 0x8000100, 22, [], []) := by decide

theorem test_ldrb : after (step (state specConfig 0x1F 0x8000000 [(1, 0x3000000)] [(0x3000000, 0x11223344), (0x3000004, 0x55667788)] (.arm 0xE5D10003)))
    [0] [] =
    some (0x1F, 0x8000004, 8, [0x11], []) := by decide

theorem test_strb : after (step (state specConfig 0x1F 0x8000000 [(1, 0x3000000), (0, 0xABCD)] [(0x3000000, 0x11223344), (0x3000004, 0x55667788)] (.arm 0xE5C10002)))
    [] [0x3000000] =
    some (0x1F, 0x8000004, 9, [], [0x11CD3344]) := by decide

theorem test_str_misaligned : after (step (state specConfig 0x1F 0x8000000 [(1, 0x3000000), (0, 0xAABBCCDD)] [(0x3000000, 0x11223344), (0x3000004, 0x55667788)] (.arm 0xE5810002)))
    [] [0x3000000] =
    some (0x1F, 0x8000004, 9, [], [0xAABBCCDD]) := by decide

theorem test_str_pc_plus12 : after (step (state ({ specConfig with pcStoreRead := .plus12 }) 0x1F 0x8000000 [(1, 0x3000000)] [(0x3000000, 0x11223344), (0x3000004, 0x55667788)] (.arm 0xE581F000)))
    [] [0x3000000] =
    some (0x1F, 0x8000004, 9, [], [0x800000C]) := by decide

theorem test_ldrsh_odd : after (step (state specConfig 0x1F 0x8000000 [(1, 0x3000000)] [(0x3000000, 0x8001ABCD), (0x3000004, 0x11223344)] (.arm 0xE1D100F1)))
    [0] [] =
    some (0x1F, 0x8000004, 8, [0xFFFFFFAB], []) := by decide

theorem test_ldrsh : after (step (state specConfig 0x1F 0x8000000 [(1, 0x3000000)] [(0x3000000, 0x8001ABCD), (0x3000004, 0x11223344)] (.arm 0xE1D100F2)))
    [0] [] =
    some (0x1F, 0x8000004, 8, [0xFFFF8001], []) := by decide

theorem test_ldrsb : after (step (state specConfig 0x1F 0x8000000 [(1, 0x3000000)] [(0x3000000, 0x8001ABCD), (0x3000004, 0x11223344)] (.arm 0xE1D100D0)))
    [0] [] =
    some (0x1F, 0x8000004, 8, [0xFFFFFFCD], []) := by decide

theorem test_strh : after (step (state specConfig 0x1F 0x8000000 [(1, 0x3000000), (0, 0x12345678)] [(0x3000000, 0x8001ABCD), (0x3000004, 0x11223344)] (.arm 0xE1C100B1)))
    [] [0x3000000] =
    some (0x1F, 0x8000004, 9, [], [0x80015678]) := by decide

/-! Section 3.7. -/

theorem test_ldm : after (step (state specConfig 0x1F 0x8000000 [(0, 0x3000000)] [(0x3000000, 1), (0x3000004, 2), (0x3000008, 3), (0x300000C, 4)] (.arm 0xE8B0000E)))
    [1, 2, 3, 0] [] =
    some (0x1F, 0x8000004, 10, [1, 2, 3, 0x300000C], []) := by decide

theorem test_ldm_pc : after (step (state specConfig 0x1F 0x8000000 [(0, 0x3000000)] [(0x3000000, 5), (0x3000004, 0x8000100)] (.arm 0xE8908002)))
    [1] [] =
    some (0x1F, 0x8000100, 23, [5], []) := by decide

theorem test_stm_push : after (step (state specConfig 0x1F 0x8000000 [(13, 0x3000100), (0, 0xA), (1, 0xB), (14, 0xE)] [] (.arm 0xE92D4003)))
    [13] [0x30000F4, 0x30000F8, 0x30000FC] =
    some (0x1F, 0x8000004, 11, [0x30000F4], [0xA, 0xB, 0xE]) := by decide

theorem test_stm_base_in_list : after (step (state specConfig 0x1F 0x8000000 [(2, 0x3000000), (1, 0x11)] [] (.arm 0xE8A20006)))
    [2] [0x3000000, 0x3000004] =
    some (0x1F, 0x8000004, 10, [0x3000008], [0x11, 0x3000008]) := by decide

/-! Section 3.8. -/

theorem test_swp : after (step (state specConfig 0x1F 0x8000000 [(0, 0x55), (2, 0x3000000)] [(0x3000000, 0x66)] (.arm 0xE1020090)))
    [0] [0x3000000] =
    some (0x1F, 0x8000004, 9, [0x66], [0x55]) := by decide

theorem test_swpb : after (step (state specConfig 0x1F 0x8000000 [(1, 0xAABB), (2, 0x3000001)] [(0x3000000, 0x11223344), (0x3000004, 0x55667788)] (.arm 0xE1420091)))
    [0] [0x3000000] =
    some (0x1F, 0x8000004, 9, [0x33], [0x1122BB44]) := by decide

/-! Section 3.9. -/

theorem test_b : after (step (state specConfig 0x1F 0x8000000 [] [] (.arm 0xEA000002)))
    [] [] =
    some (0x1F, 0x8000010, 20, [], []) := by decide

theorem test_b_itself : after (step (state specConfig 0x1F 0x8000000 [] [] (.arm 0xEAFFFFFE)))
    [] [] =
    some (0x1F, 0x8000000, 20, [], []) := by decide

theorem test_bl : after (step (state specConfig 0x1F 0x8000000 [] [] (.arm 0xEB000000)))
    [14] [] =
    some (0x1F, 0x8000008, 20, [0x8000004], []) := by decide

theorem test_b_not_taken : after (step (state specConfig 0x1F 0x8000000 [] [] (.arm 0x0A000002)))
    [] [] =
    some (0x1F, 0x8000004, 6, [], []) := by decide

theorem test_bx : after (step (state specConfig 0x1F 0x8000000 [(0, 0x8000103)] [] (.arm 0xE12FFF10)))
    [] [] =
    some (0x3F, 0x8000102, 14, [], []) := by decide

theorem test_swi : after (step (state specConfig 0x6000001F 0x8000000 [] [] (.arm 0xEF000012)))
    [14] [] =
    some (0x60000093, 8, 8, [0x8000004], []) := by decide

theorem test_undefined_nop : after (step (state specConfig 0x1F 0x8000000 [] [] (.arm 0xE6000010)))
    [14] [] =
    some (0x1F, 0x8000004, 6, [0], []) := by decide

theorem test_undefined_trap : after (step (state ({ specConfig with undef := .trap }) 0x1F 0x8000000 [] [] (.arm 0xE6000010)))
    [14] [] =
    some (0x9B, 4, 8, [0x8000004], []) := by decide

/-! Section 3.10. -/

theorem test_t_lsl_imm : after (step (state specConfig 0x2000003F 0x8000000 [(1, 0x80000000)] [] (.thumb 0x0008)))
    [0] [] =
    some (0xA000003F, 0x8000002, 3, [0x80000000], []) := by decide

theorem test_t_lsr_imm : after (step (state specConfig 0x3F 0x8000000 [(1, 0x80000000)] [] (.thumb 0x0808)))
    [0] [] =
    some (0x6000003F, 0x8000002, 3, [0], []) := by decide

theorem test_t_asr_imm : after (step (state specConfig 0x3F 0x8000000 [(1, 0x80000000)] [] (.thumb 0x1008)))
    [0] [] =
    some (0xA000003F, 0x8000002, 3, [0xFFFFFFFF], []) := by decide

theorem test_t_add_reg : after (step (state specConfig 0x3F 0x8000000 [(1, 0x7FFFFFFF), (2, 1)] [] (.thumb 0x1888)))
    [0] [] =
    some (0x9000003F, 0x8000002, 3, [0x80000000], []) := by decide

theorem test_t_sub_imm3 : after (step (state specConfig 0x3F 0x8000000 [(1, 0)] [] (.thumb 0x1E48)))
    [0] [] =
    some (0x8000003F, 0x8000002, 3, [0xFFFFFFFF], []) := by decide

theorem test_t_mov_imm : after (step (state specConfig 0x9000003F 0x8000000 [(0, 1)] [] (.thumb 0x2000)))
    [0] [] =
    some (0x5000003F, 0x8000002, 3, [0], []) := by decide

theorem test_t_cmp_imm : after (step (state specConfig 0x3F 0x8000000 [(0, 5)] [] (.thumb 0x2805)))
    [0] [] =
    some (0x6000003F, 0x8000002, 3, [5], []) := by decide

theorem test_t_add_imm8 : after (step (state specConfig 0x3F 0x8000000 [(0, 1)] [] (.thumb 0x30FF)))
    [0] [] =
    some (0x3F, 0x8000002, 3, [0x100], []) := by decide

theorem test_t_sub_imm8 : after (step (state specConfig 0x3F 0x8000000 [(0, 0)] [] (.thumb 0x3801)))
    [0] [] =
    some (0x8000003F, 0x8000002, 3, [0xFFFFFFFF], []) := by decide

theorem test_t_neg : after (step (state specConfig 0x3F 0x8000000 [(1, 0)] [] (.thumb 0x4248)))
    [0] [] =
    some (0x6000003F, 0x8000002, 3, [0], []) := by decide

theorem test_t_neg_overflow : after (step (state specConfig 0x3F 0x8000000 [(1, 0x80000000)] [] (.thumb 0x4248)))
    [0] [] =
    some (0x9000003F, 0x8000002, 3, [0x80000000], []) := by decide

theorem test_t_lsl : after (step (state specConfig 0x3F 0x8000000 [(0, 1), (1, 0x20)] [] (.thumb 0x4088)))
    [0] [] =
    some (0x6000003F, 0x8000002, 4, [0], []) := by decide

theorem test_t_lsr : after (step (state specConfig 0x3F 0x8000000 [(0, 0x80000000), (1, 0x21)] [] (.thumb 0x40C8)))
    [0] [] =
    some (0x4000003F, 0x8000002, 4, [0], []) := by decide

theorem test_t_ror_zero : after (step (state specConfig 0x2000003F 0x8000000 [(0, 0x12345678), (1, 0)] [] (.thumb 0x41C8)))
    [0] [] =
    some (0x2000003F, 0x8000002, 4, [0x12345678], []) := by decide

theorem test_t_ror : after (step (state specConfig 0x3F 0x8000000 [(0, 0x12345678), (1, 8)] [] (.thumb 0x41C8)))
    [0] [] =
    some (0x3F, 0x8000002, 4, [0x78123456], []) := by decide

theorem test_t_adc : after (step (state specConfig 0x2000003F 0x8000000 [(0, 0xFFFFFFFF), (1, 0)] [] (.thumb 0x4148)))
    [0] [] =
    some (0x6000003F, 0x8000002, 3, [0], []) := by decide

theorem test_t_sbc : after (step (state specConfig 0x3F 0x8000000 [(0, 5), (1, 5)] [] (.thumb 0x4188)))
    [0] [] =
    some (0x8000003F, 0x8000002, 3, [0xFFFFFFFF], []) := by decide

theorem test_t_cmn : after (step (state specConfig 0x3F 0x8000000 [(0, 0x80000000), (1, 0x80000000)] [] (.thumb 0x42C8)))
    [0] [] =
    some (0x7000003F, 0x8000002, 3, [0x80000000], []) := by decide

theorem test_t_add_hi : after (step (state specConfig 0x3F 0x8000000 [(8, 5), (0, 7)] [] (.thumb 0x4480)))
    [8] [] =
    some (0x3F, 0x8000002, 3, [0xC], []) := by decide

theorem test_t_cmp_hi : after (step (state specConfig 0x3F 0x8000000 [(8, 1), (0, 2)] [] (.thumb 0x4580)))
    [8] [] =
    some (0x8000003F, 0x8000002, 3, [1], []) := by decide

theorem test_t_mov_hi_pc : after (step (state specConfig 0x3F 0x8000000 [(8, 0x8000021)] [] (.thumb 0x46C7)))
    [] [] =
    some (0x3F, 0x8000020, 11, [], []) := by decide

theorem test_t_mov_hi : after (step (state specConfig 0x3F 0x8000000 [] [] (.thumb 0x4678)))
    [0] [] =
    some (0x3F, 0x8000002, 3, [0x8000004], []) := by decide

theorem test_t_add_pc : after (step (state specConfig 0x3F 0x8000002 [] [] (.thumb 0xA001)))
    [0] [] =
    some (0x3F, 0x8000004, 3, [0x8000008], []) := by decide

theorem test_t_add_sp_imm : after (step (state specConfig 0x3F 0x8000000 [(13, 0x3007F00)] [] (.thumb 0xB0FF)))
    [13] [] =
    some (0x3F, 0x8000002, 3, [0x3007D04], []) := by decide

theorem test_t_add_sp : after (step (state specConfig 0x3F 0x8000000 [(13, 0x3007000)] [] (.thumb 0xA8FF)))
    [0] [] =
    some (0x3F, 0x8000002, 3, [0x30073FC], []) := by decide

/-! Section 3.11. -/

theorem test_t_ldr_pc : after (step (state specConfig 0x3F 0x8000002 [] [(0x8000008, 0x12345678)] (.thumb 0x4801)))
    [0] [] =
    some (0x3F, 0x8000004, 12, [0x12345678], []) := by decide

theorem test_t_ldr_imm : after (step (state specConfig 0x3F 0x8000000 [(1, 0x3000000)] [(0x3000000, 0x8001ABCD), (0x3000004, 0x11223344)] (.thumb 0x6848)))
    [0] [] =
    some (0x3F, 0x8000002, 5, [0x11223344], []) := by decide

theorem test_t_ldr_reg : after (step (state specConfig 0x3F 0x8000000 [(1, 0x3000000), (2, 5)] [(0x3000000, 0x8001ABCD), (0x3000004, 0x11223344)] (.thumb 0x5888)))
    [0] [] =
    some (0x3F, 0x8000002, 5, [0x44112233], []) := by decide

theorem test_t_ldrb_imm : after (step (state specConfig 0x3F 0x8000000 [(1, 0x2FFFFE8)] [(0x3000000, 0x8001ABCD), (0x3000004, 0x11223344)] (.thumb 0x7FC8)))
    [0] [] =
    some (0x3F, 0x8000002, 5, [0x11], []) := by decide

theorem test_t_ldrh_imm : after (step (state specConfig 0x3F 0x8000000 [(1, 0x3000000)] [(0x3000000, 0x8001ABCD), (0x3000004, 0x11223344)] (.thumb 0x8848)))
    [0] [] =
    some (0x3F, 0x8000002, 5, [0x8001], []) := by decide

theorem test_t_ldsh_reg : after (step (state specConfig 0x3F 0x8000000 [(1, 0x3000000), (2, 1)] [(0x3000000, 0x8001ABCD), (0x3000004, 0x11223344)] (.thumb 0x5E88)))
    [0] [] =
    some (0x3F, 0x8000002, 5, [0xFFFFFFAB], []) := by decide

theorem test_t_ldsb_reg : after (step (state specConfig 0x3F 0x8000000 [(1, 0x3000000), (2, 3)] [(0x3000000, 0x8001ABCD), (0x3000004, 0x11223344)] (.thumb 0x5688)))
    [0] [] =
    some (0x3F, 0x8000002, 5, [0xFFFFFF80], []) := by decide

theorem test_t_str_sp : after (step (state specConfig 0x3F 0x8000000 [(13, 0x3000000), (0, 0xCAFE)] [(0x3000000, 0x8001ABCD), (0x3000004, 0x11223344)] (.thumb 0x9001)))
    [] [0x3000004] =
    some (0x3F, 0x8000002, 6, [], [0xCAFE]) := by decide

theorem test_t_push : after (step (state specConfig 0x3F 0x8000000 [(13, 0x3000100), (0, 0xA), (14, 0x8000101)] [] (.thumb 0xB501)))
    [13] [0x30000F8, 0x30000FC] =
    some (0x3F, 0x8000002, 7, [0x30000F8], [0xA, 0x8000101]) := by decide

theorem test_t_pop : after (step (state specConfig 0x3F 0x8000000 [(13, 0x3000000)] [(0x3000000, 7), (0x3000004, 0x8000041)] (.thumb 0xBD01)))
    [0, 13] [] =
    some (0x3F, 0x8000040, 14, [7, 0x3000008], []) := by decide

theorem test_t_stmia : after (step (state specConfig 0x3F 0x8000000 [(1, 0x3000000), (0, 0x11)] [] (.thumb 0xC103)))
    [1] [0x3000000, 0x3000004] =
    some (0x3F, 0x8000002, 7, [0x3000008], [0x11, 0x3000008]) := by decide

theorem test_t_ldmia_base_in_list : after (step (state specConfig 0x3F 0x8000000 [(0, 0x3000000)] [(0x3000000, 0x8001ABCD), (0x3000004, 0x11223344)] (.thumb 0xC803)))
    [0, 1] [] =
    some (0x3F, 0x8000002, 6, [0x8001ABCD, 0x11223344], []) := by decide

theorem test_t_ldmia : after (step (state specConfig 0x3F 0x8000000 [(2, 0x3000000)] [(0x3000000, 0x8001ABCD), (0x3000004, 0x11223344)] (.thumb 0xCA03)))
    [0, 1, 2] [] =
    some (0x3F, 0x8000002, 6, [0x8001ABCD, 0x11223344, 0x3000008], []) := by decide

/-! Section 3.12. -/

theorem test_t_b_cond_taken : after (step (state specConfig 0x4000003F 0x8000000 [] [] (.thumb 0xD002)))
    [] [] =
    some (0x4000003F, 0x8000008, 11, [], []) := by decide

theorem test_t_b_cond_not_taken : after (step (state specConfig 0x3F 0x8000000 [] [] (.thumb 0xD002)))
    [] [] =
    some (0x3F, 0x8000002, 3, [], []) := by decide

theorem test_t_b : after (step (state specConfig 0x3F 0x8000000 [] [] (.thumb 0xE7FE)))
    [] [] =
    some (0x3F, 0x8000000, 11, [], []) := by decide

theorem test_t_bl_hi : after (step (state specConfig 0x3F 0x8000000 [] [] (.thumb 0xF001)))
    [14] [] =
    some (0x3F, 0x8000002, 3, [0x8001004], []) := by decide

theorem test_t_bl_lo : after (step (state specConfig 0x3F 0x8000002 [(14, 0x8001004)] [] (.thumb 0xF800)))
    [14] [] =
    some (0x3F, 0x8001004, 11, [0x8000005], []) := by decide

theorem test_t_swi : after (step (state specConfig 0x3F 0x8000000 [] [] (.thumb 0xDF05)))
    [14] [] =
    some (0x93, 8, 5, [0x8000002], []) := by decide

theorem test_t_bx : after (step (state specConfig 0x3F 0x8000000 [(0, 0x8000200)] [] (.thumb 0x4700)))
    [] [] =
    some (0x1F, 0x8000200, 17, [], []) := by decide

theorem test_t_undefined : after (step (state specConfig 0x3F 0x8000000 [] [] (.thumb 0xDE00)))
    [] [] =
    some (0x3F, 0x8000002, 3, [], []) := by decide

/-! Sections 1, 3.4 to 3.15 and program P5: what stops, exceptions, interrupts, reset, memory. -/

/-- The name of a fault, if the result is one. -/
def stop (r : Result) : Option FaultName :=
  match r with
  | .next _ => none
  | .fault f => f.stuck.fault
  | .refused _ => none

theorem test_mrs_spsr_system_mode : stop (step (state specConfig 0x1F 0x08000000 [] [] (.arm 0xE14F0000))) = some .modeError := by decide

theorem test_msr_no_mode : stop (step (state specConfig 0x1F 0x08000000 [] [] (.arm 0xE121F000))) = some .modeError := by decide

theorem test_msr_changes_t_fault :
    stop (step (state specConfig 0x1F 0x08000000 [(0, 0x3F)] [] (.arm 0xE121F000))) = some (.unpredictable .msrTChange) := by decide

theorem test_ldm_empty_fault :
    stop (step (state specConfig 0x1F 0x08000000 [(0, 0x03000000)] [] (.arm 0xE8900000))) = some (.unpredictable .ldmEmpty) := by decide

theorem test_bx_misaligned_fault :
    stop (step (state specConfig 0x1F 0x08000000 [(0, 0x08000102)] [] (.arm 0xE12FFF10))) = some (.unpredictable .bxArmMisaligned) := by decide

theorem test_t_push_empty_fault :
    stop (step (state specConfig 0x3F 0x08000000 [] [] (.thumb 0xB400))) = some (.unpredictable .thumbPushpopEmpty) := by decide

/-- A flag-setting multiply: the result; C is a free value and is not asked for. -/
theorem test_muls : (match step (state specConfig 0x1F 0x08000000 [(1, 0x80000000), (2, 2)] [] (.arm 0xE0100291)) with
    | .next t => some (t.regs.r0, t.pc, t.cycles)
    | .fault _ => none
    | .refused _ => none) = some (0, 0x08000004, 7) := by decide

theorem test_smulls : (match step (state specConfig 0x1F 0x08000000 [(2, 0x80000000), (3, 2)] [] (.arm 0xE0D10392)) with
    | .next t => some (t.regs.r0, t.regs.r1, t.cycles)
    | .fault _ => none
    | .refused _ => none) = some (0, 0xFFFFFFFF, 8) := by decide

theorem test_t_mul : (match step (state specConfig 0x3F 0x08000000 [(0, 0xFFFFFFFF), (1, 0xFFFFFFFF)] [] (.thumb 0x4348)) with
    | .next t => some (t.regs.r0, t.pc, t.cycles)
    | .fault _ => none
    | .refused _ => none) = some (1, 0x08000002, 4) := by decide

/-- A supervisor-mode state as a SWI from system mode leaves it. -/
def supervisor (code : Code) : State :=
  { state specConfig 0x60000093 0x08000000 [(0, 0x03000000), (13, 0x1111), (14, 0x08000004)] [(0x03000000, 0x11), (0x03000004, 0x08000100)] code with
    spsr := ⟨0, 0, 0x6000001F, 0, 0⟩ }

/-- The return of program P5, MOVS PC, R14. -/
theorem test_movs_pc : after (step (supervisor (.arm 0xE1B0F00E))) [] [] = some (0x6000001F, 0x08000004, 20, [], []) := by decide

/-- The supervisor-mode state of a SWI from Thumb state at 0x08000000 (R501), under either reading of R259 (log 4): R14 = 0x08000002, and that word in
memory. -/
def thumbCaller (r : ReturnAlign) (code : Code) : State :=
  { state { specConfig with dpReturn := r, ldmReturn := r } 0x20000093 0x00000008 [(0, 0x03000000), (14, 0x08000002)] [(0x03000000, 0x08000002)] code with
    spsr := ⟨0, 0, 0x2000003F, 0, 0⟩ }

/-- MOVS PC, R14 to Thumb state: R259's two masks, and R501's "to the Thumb instruction at 0x08000002". -/
theorem test_movs_pc_to_thumb :
    (after (step (thumbCaller .stepwise (.arm 0xE1B0F00E))) [] []).map (fun x => (x.1, x.2.1)) = some (0x2000003F, 0x08000000) ∧
    (after (step (thumbCaller .restored (.arm 0xE1B0F00E))) [] []).map (fun x => (x.1, x.2.1)) = some (0x2000003F, 0x08000002) := by decide

/-- LDMIA R0, {PC}^ to Thumb state (R357, R349). -/
theorem test_ldm_return_to_thumb :
    (after (step (thumbCaller .stepwise (.arm 0xE8D08000))) [] []).map (fun x => (x.1, x.2.1)) = some (0x2000003F, 0x08000000) ∧
    (after (step (thumbCaller .restored (.arm 0xE8D08000))) [] []).map (fun x => (x.1, x.2.1)) = some (0x2000003F, 0x08000002) := by decide

/-- With the parameters after reset MOVS PC, R14 goes where R501 says, and LDMIA R0, {PC}^ where R357 does (log 4). -/
theorem test_returns_after_reset :
    let s := fun code => { thumbCaller .stepwise code with cfg := specConfig }
    (after (step (s (.arm 0xE1B0F00E))) [] []).map (fun x => (x.1, x.2.1)) = some (0x2000003F, 0x08000002) ∧
    (after (step (s (.arm 0xE8D08000))) [] []).map (fun x => (x.1, x.2.1)) = some (0x2000003F, 0x08000000) := by decide

/-- LDMIA R0, {R13, PC}^: R13 of the supervisor bank, then the return (R357). -/
theorem test_ldm_return : (match step (supervisor (.arm 0xE8D0A000)) with
    | .next t => some (t.cpsr, t.pc, t.regs.r13_svc, t.regs.r13_usr)
    | .fault _ => none
    | .refused _ => none) = some (0x6000001F, 0x08000100, 0x11, 0) := by decide

/-- LDMIA R0, {R13}^: R13 of the user bank (R356). -/
theorem test_ldm_user : (match step (supervisor (.arm 0xE8D02000)) with
    | .next t => some (t.cpsr, t.regs.r13_svc, t.regs.r13_usr)
    | .fault _ => none
    | .refused _ => none) = some (0x60000093, 0x1111, 0x11) := by decide

/-- STMIA R0, {R13}^: R13 of the user bank stored (R356). -/
theorem test_stm_user : after (step (supervisor (.arm 0xE8C02000))) [13] [0x03000000] = some (0x60000093, 0x08000004, 9, [0x1111], [0]) := by decide

/-- MRS R0, SPSR and MSR SPSR_fc, R14 in a mode that has one (R280, R284). -/
theorem test_mrs_spsr : after (step (supervisor (.arm 0xE14F0000))) [0] [] = some (0x60000093, 0x08000004, 6, [0x6000001F], []) := by decide

theorem test_msr_spsr : (match step (supervisor (.arm 0xE169F00E)) with
    | .next t => some (t.cpsr, t.spsr.svc)
    | .fault _ => none
    | .refused _ => none) = some (0x60000093, 0x08000004) := by decide

/-- Section 3.15: IE = IF = 1 and IME = 1. -/
def pending (cpsr pc : Word) (ie ime : Nat) : State :=
  let s := state specConfig cpsr pc [] [(0x04000200, BitVec.ofNat 32 ie), (0x04000208, BitVec.ofNat 32 ime)] (.arm 0xE1A00000)
  s

theorem test_irq_arm : (match step (pending 0x1F 0x08000004 0x00010001 1) with
    | .next t => some (t.regs.r14_irq, t.spsr.irq, t.cpsr, t.pc, t.cycles)
    | .fault _ => none
    | .refused _ => none) = some (0x08000008, 0x1F, 0x92, 0x18, 8) := by decide

theorem test_irq_thumb : (match step (pending 0x3F 0x08000002 0x00010001 1) with
    | .next t => some (t.regs.r14_irq, t.spsr.irq, t.cpsr, t.pc, t.cycles)
    | .fault _ => none
    | .refused _ => none) = some (0x08000006, 0x3F, 0x92, 0x18, 5) := by decide

theorem test_irq_masked :
    (pending 0x9F 0x08000004 0x00010001 1).taken = none ∧ (pending 0x1F 0x08000004 0x00010001 0).taken = none ∧
    (pending 0x1F 0x08000004 0x00010002 1).taken = none ∧ (pending 0x1F 0x08000004 0xC000C000 1).taken = none ∧
    (pending 0x1F 0x08000004 0x20002000 1).taken = some .irq := by decide

theorem test_fiq_before_irq : (match step { pending 0x1F 0x08000004 0x00010001 1 with fiqLine := [true] } with
    | .next t => some (t.regs.r14_fiq, t.spsr.fiq, t.cpsr, t.pc, t.fiqLine)
    | .fault _ => none
    | .refused _ => none) = some (0x08000008, 0x1F, 0xD1, 0x1C, []) := by decide

/-- The host sends FIQ_LINE with a step (R610, R541): high is taken with F = 0, low is not, and F = 1 masks it. -/
theorem test_host_step_fiq : (hostStep true 0 (pending 0x1F 0x08000004 0 0)).pc = 0x1C ∧ (hostStep false 0 (pending 0x1F 0x08000004 0 0)).pc = 0x08000008 ∧
    (hostStep true 0 (pending 0x5F 0x08000004 0 0)).pc = 0x08000008 := by decide

/-- Section 3.14, with a word placed as the host places it: B . in the boot ROM. -/
theorem test_first_step : after (step ((State.resetWith specConfig defaultCosts defaultCosts []).withFetchWord 32 0xEAFFFFFE)) [13] [] =
    some (0xD3, 0, 3, [0], []) := by decide

theorem test_first_step_thumb : after (step (State.reset.withFetchWord 16 0x20FF)) [0] [] = some (0xF3, 2, 1, [0xFF], []) := by decide

/-- Section 1, V2, V9 and V10, and section 3.13. -/
def blank : State := State.resetWith specConfig defaultCosts defaultCosts []

theorem test_mirrors :
    (blank.write16 0x02000010 0xBEEF).read16 0x02FC0010 = 0xBEEF ∧ (blank.write32 0x03000000 0x11223344).read32 0x03FF8000 = 0x11223344 ∧
    (blank.write8 0x05000000 0x77).read8 0x05000400 = 0x77 ∧ (blank.write16 0x07000002 0x1111).read16 0x07000402 = 0x1111 ∧
    (blank.write32 0x06018004 0xCAFEF00D).read32 0x06038004 = 0xCAFEF00D ∧ (blank.write32 0x08000000 1).read32 0x08000000 = 0 ∧
    (blank.write32 0x03000000 0x11223344).read16 0x03000002 = 0x1122 :=
  ⟨by decide, by decide, by decide, by decide, by decide, by decide, by decide⟩

theorem test_interrupt_flag_write :
    ((blank.raiseIrq 0).raiseIrq 1).read16 0x04000202 = 3 ∧ (((blank.raiseIrq 0).raiseIrq 2).write16 0x04000202 0x0001).read16 0x04000202 = 4 ∧
    (blank.write16 0x04000202 0x0005).read16 0x04000202 = 0 ∧ ((blank.raiseIrq 0).write32 0x04000200 0x00011234).read32 0x04000200 = 0x1234 := by
  decide

theorem test_hook : (blank.write16 0x04000200 0x1234).ioEvents =
      [⟨.w16, 0x04000200, 0x1234, [⟨0x04000200, 0x34⟩, ⟨0x04000201, 0x12⟩]⟩] ∧
    (blank.write32 0x04000400 1).ioEvents = [] :=
  ⟨by decide +kernel, by decide +kernel⟩

/-- Section 3.1 and V4: the amounts at which the shifter's cases meet. -/
theorem test_shifter :
    shiftImm .lsl 0x80000001 31 true = (0x80000000, false) ∧ shiftReg .lsl 0x80000001 32 true = (0, true) ∧
    shiftReg .lsl 0x80000001 33 true = (0, false) ∧ shiftImm .lsr 0x80000001 0 false = (0, true) ∧
    shiftReg .lsr 0x80000001 32 false = (0, true) ∧ shiftReg .lsr 0x80000001 33 true = (0, false) ∧
    shiftImm .asr 0x7FFFFFFE 0 true = (0, false) ∧ shiftReg .asr 0x80000001 40 false = (0xFFFFFFFF, true) ∧
    shiftImm .ror 3 0 true = (0x80000001, true) ∧ shiftReg .ror 0x80000001 0 false = (0x80000001, false) ∧
    shiftReg .ror 0x80000001 32 false = (0x80000001, true) ∧ shiftReg .ror 0x80000001 36 true = (0x18000000, false) := by decide

/-! ## Witnesses: states and operands that meet each statement's hypotheses -/

open Sys2Proof.Claims

/-- An ARM state in system mode under the policy `fault`: R1 in IWRAM, R2 = 2. -/
def arm : State := state specConfig 0x1F 0x08000000 [(1, 0x03000000), (2, 2), (13, 0x03000100)] [] (.arm 0xE1A00000)

/-- Its Thumb counterpart. -/
def thumb : State := state specConfig 0x3F 0x08000000 [(1, 0x03000000), (2, 2), (13, 0x03000100)] [] (.thumb 0x46C0)

/-- The same states under the policy `arm7tdmi`. -/
def armEffect : State := { arm with cfg := effectConfig }

theorem witness_reset_keeps_inv : Memory.wf [(0x08000000, 1), (0x0E000000, 2)] = true := by decide

theorem configure_some (bios : List Byte) (fiq : List Bool) (h : bios.length = 16384) :
    ∃ s, configure specConfig defaultCosts defaultCosts bios [1, 2] [3] fiq = some s := by
  unfold configure
  rw [h]
  exact ⟨_, rfl⟩

theorem witness_reset_memory : ∃ s, configure specConfig defaultCosts defaultCosts (List.replicate 16384 0xEA) [1, 2] [3] [false, true] = some s :=
  configure_some _ _ List.length_replicate

theorem witness_step_runs_decoded : arm.fault = none ∧ arm.taken = none ∧ accessFaults arm.cfg arm.pc arm.fw = false ∧
    decodeBytes arm.thumb (if arm.thumb then [arm.read8 arm.pc, arm.read8 (arm.pc + 1)]
      else [arm.read8 arm.pc, arm.read8 (arm.pc + 1), arm.read8 (arm.pc + 2), arm.read8 (arm.pc + 3)]) =
      .ok (.movImmShift .al false 0 ⟨0, .lsl, 0⟩) :=
  ⟨by decide, by decide, by decide, by decide⟩

theorem witness_step_runs_decoded_thumb : thumb.fault = none ∧ thumb.taken = none ∧ accessFaults thumb.cfg thumb.pc thumb.fw = false ∧
    decodeBytes thumb.thumb (if thumb.thumb then [thumb.read8 thumb.pc, thumb.read8 (thumb.pc + 1)]
      else [thumb.read8 thumb.pc, thumb.read8 (thumb.pc + 1), thumb.read8 (thumb.pc + 2), thumb.read8 (thumb.pc + 3)]) =
      .ok (.tMovHi 8 8) :=
  ⟨by decide, by decide, by decide, by decide⟩

theorem witness_step_order : ({ arm with fault := some .modeError } : State).fault = some .modeError ∧
    ({ pending 0x1F 0x08000004 0x00010001 1 with fiqLine := [true] } : State).taken = some .fiq ∧
    (pending 0x1F 0x08000004 0x20002000 1).taken = some .irq := by decide

theorem witness_interrupt_entry : (pending 0x1F 0x08000004 0x00010001 1).fault = none ∧ (pending 0x1F 0x08000004 0x00010001 1).taken = some .irq ∧
    (pending 0x3F 0x08000002 0x00010001 1).taken = some .irq ∧
    ({ pending 0x9F 0x08000004 0 0 with fiqLine := [true] } : State).taken = some .fiq := by decide

theorem witness_arm : Arm arm .al ∧ Arm arm .ne := ⟨⟨by decide, by decide⟩, ⟨by decide, by decide⟩⟩

theorem witness_thumb : thumb.thumb = true := by decide

theorem witness_software_interrupt : Arm arm .al ∧ thumb.thumb = true := ⟨witness_arm.1, witness_thumb⟩

theorem witness_undefined_encodings : Instr.coprocOp .al ∈ armUndefined .al ∧ Instr.undefMul .al ∈ armUndefined .al ∧ Arm arm .al ∧
    arm.cfg.undef = .nop ∧ ({ arm with cfg := { specConfig with undef := .trap } } : State).cfg.undef = .trap ∧
    Instr.tUndefE8 ∈ thumbUndefined ∧ thumb.thumb = true :=
  ⟨by decide, by decide, witness_arm.1, by decide, by decide, by decide, witness_thumb⟩

/-- The first and last address of every range of the table, and what they are. -/
theorem witness_region_table : specConfig.wf = true ∧
    transform specConfig 0 = .mapped .bios 0 ∧ transform specConfig 0x3FFF = .mapped .bios 0x3FFF ∧
    transform specConfig 0x4000 = .unmapped ∧ transform specConfig 0x1FFFFFF = .unmapped ∧
    transform specConfig 0x2000000 = .mapped .ewram 0 ∧ transform specConfig 0x2FFFFFF = .mapped .ewram 0x3FFFF ∧
    transform specConfig 0x3000000 = .mapped .iwram 0 ∧ transform specConfig 0x3FFFFFF = .mapped .iwram 0x7FFF ∧
    transform specConfig 0x4000000 = .mapped .io 0 ∧ transform specConfig 0x40003FF = .mapped .io 0x3FF ∧
    transform specConfig 0x4000400 = .outOfWindow ∧ transform specConfig 0x4FFFFFF = .outOfWindow ∧
    transform specConfig 0x5000000 = .mapped .pal 0 ∧ transform specConfig 0x5FFFFFF = .mapped .pal 0x3FF ∧
    transform specConfig 0x6000000 = .mapped .vram 0 ∧ transform specConfig 0x6017FFF = .mapped .vram 0x17FFF ∧
    transform specConfig 0x6018000 = .mapped .vram 0 ∧ transform specConfig 0x6FFFFFF = .mapped .vram 0x7FFF ∧
    transform { specConfig with vramTail := .base10000 } 0x6018000 = .mapped .vram 0x10000 ∧
    transform specConfig 0x7000000 = .mapped .oam 0 ∧ transform specConfig 0x7FFFFFF = .mapped .oam 0x3FF ∧
    transform specConfig 0x8000000 = .mapped .rom 0 ∧ transform specConfig 0xDFFFFFF = .mapped .rom 0x1FFFFFF ∧
    transform { specConfig with romSize := 16 } 0x800000F = .mapped .rom 15 ∧ transform { specConfig with romSize := 16 } 0x8000010 = .unmapped ∧
    transform specConfig 0xE000000 = .mapped .sram 0 ∧ transform specConfig 0xFFFFFFF = .mapped .sram 0xFFFF ∧
    transform { specConfig with sramSize := 0x8000 } 0xE008000 = .unmapped ∧
    transform specConfig 0x10000000 = .unmapped ∧ transform specConfig 0xFFFFFFFF = .unmapped := by decide +kernel

theorem witness_byte_write : arm.mem.wf = true := by decide

theorem witness_io_hook : arm.mem.wf = true ∧ arm.cfg.wf = true ∧
    (0x04000000 ≤ (0x04000000 : Word).toNat ∧ (0x04000000 : Word).toNat ≤ arm.cfg.ioWindowLast) ∧
    (0x04000000 ≤ (0x040003FF : Word).toNat ∧ (0x040003FF : Word).toNat ≤ arm.cfg.ioWindowLast) ∧
    ¬ (0x04000000 ≤ (0x04000400 : Word).toNat ∧ (0x04000400 : Word).toNat ≤ arm.cfg.ioWindowLast) ∧
    ¬ (0x04000000 ≤ (0x03FFFFFF : Word).toNat ∧ (0x03FFFFFF : Word).toNat ≤ arm.cfg.ioWindowLast) := by decide

/-- The policy `fault` above the I/O window: R1 and the program counter are the first address above it, R13 that of the second word above it. -/
def above : State := state { specConfig with oow := .fault } 0x1F 0x04000400 [(1, 0x04000400), (13, 0x04000408)] [] (.arm 0)

/-- Its Thumb counterpart. -/
def aboveThumb : State := state { specConfig with oow := .fault } 0x3F 0x04000400 [(1, 0x04000400), (13, 0x04000408)] [] (.thumb 0)

/-- STMIA R1, {R0, R2} with its second word above the window (R95, R350, R580): the first word is stored, with its event, and charged. -/
theorem test_stm_above_window :
    let t := markStep (state { specConfig with oow := .fault } 0x1F 0x08000000 [(0, 0x11), (1, 0x040003FC), (2, 0x22)] [] (.arm 0xE8A10005))
    (t.fault, t.read32 0x040003FC, t.reg 1, t.regs.r15, t.ioEvents.length, t.cycles) =
      (some .ioOutOfWindow, 0x11, 0x040003FC, 0x08000000, 1, 1) := by decide

/-- PUSH writes R13 before its stores (46_thumb_load_store.md R470), POP after its loads (R471). -/
theorem test_push_pop_above_window :
    let s := fun sp c => markStep (state { specConfig with oow := .fault } 0x3F 0x08000000 [(0, 0x11), (1, 0x22), (13, sp)] [(0x040003FC, 5)] (.thumb c))
    ((s 0x04000404 0xB403).fault, (s 0x04000404 0xB403).regs.r13_usr, (s 0x04000404 0xB403).read32 0x040003FC) =
      (some .ioOutOfWindow, 0x040003FC, 0x11) ∧
    ((s 0x040003FC 0xBC03).fault, (s 0x040003FC 0xBC03).regs.r13_usr, (s 0x040003FC 0xBC03).reg 0, (s 0x040003FC 0xBC03).reg 1) =
      (some .ioOutOfWindow, 0x040003FC, 5, 0x22) := by decide

/-- LDMIA R0!, {R1, PC}^ in system mode (R347, R357): R1 is loaded and R0 written back before the SPSR read stops it. -/
theorem test_ldm_return_system :
    let t := markStep (state specConfig 0x1F 0x08000000 [(0, 0x03000000)] [(0x03000000, 5), (0x03000004, 0x08000100)] (.arm 0xE8F08002))
    (t.fault, t.reg 1, t.reg 0, t.regs.r15, t.cycles) = (some .modeError, 5, 0x03000008, 0x08000000, 2) := by decide

theorem reaches_above {s : State} {e : Word × Width} (h : transform s.cfg e.1 = .outOfWindow) : ReachesAbove s e :=
  ⟨0, by cases e.2 <;> decide, by simpa using h⟩

theorem witness_step_order_fault : Halts (step above) .ioOutOfWindow { above with fiqLine := [], draws := 1 } := rfl

theorem witness_out_of_window_fetch : above.fault = none ∧ above.taken = none ∧ above.cfg.oow = .fault ∧ ReachesAbove above (above.pc, .w32) ∧
    aboveThumb.taken = none ∧ ReachesAbove aboveThumb (aboveThumb.pc, .w16) ∧ above.mem.wf = true ∧ aboveThumb.mem.wf = true :=
  ⟨by decide, by decide, by decide, reaches_above (by decide), by decide, reaches_above (by decide), by decide, by decide⟩

theorem witness_out_of_window_single : Arm above .al ∧ ReachesAbove above (storeAt .word (transferAddress ⟨true, true, false⟩ (above.reg 1) 0)) ∧
    wordRegular true false ⟨true, true, false⟩ 1 0 (.inl 0) ∧ wordRegular false false ⟨true, true, false⟩ 1 0 (.inl 0) ∧
    halfRegular true ⟨true, true, false⟩ 1 0 (.inl 0) ∧ halfRegular false ⟨true, true, false⟩ 1 0 (.inl 0) ∧
    ReachesAbove above (issued .shalf (transferAddress ⟨true, true, false⟩ (above.reg 1) (halfOffset above (.inl 0)))) ∧
    ReachesAbove above (storeAt .byte (above.reg 1)) ∧ Permits above ((1 : Reg) ≠ 15 ∧ (0 : Reg) ≠ 15 ∧ (2 : Reg) ≠ 15 ∧ (1 : Reg) ≠ 0 ∧ (1 : Reg) ≠ 2) :=
  ⟨⟨by decide, by decide⟩, reaches_above (by decide), ⟨by decide, by decide, nofun, by decide⟩, ⟨by decide, by decide, nofun, by decide⟩,
    ⟨by decide, by decide, by decide, nofun, by decide⟩, ⟨by decide, by decide, by decide, nofun, by decide⟩, reaches_above (by decide),
    reaches_above (by decide), .inr (by decide)⟩

/-- A block whose last word alone lies above the window. -/
theorem witness_out_of_window_block : Permits above ((1 : Reg) ≠ 15 ∧ (0x8003 : BitVec 16) ≠ 0) ∧ Permits above (above.mode ≠ .usr ∧ false = false) ∧
    BlockReachesAbove above (wordsFrom (blockFrom ⟨false, false, false⟩ (above.reg 1) 3) 3) :=
  ⟨.inr (by decide), .inr (by decide), _, by decide, reaches_above (e := (0x04000400, .w32)) (by decide)⟩

theorem witness_out_of_window_thumb : aboveThumb.thumb = true ∧
    (∃ x ∈ thumbLoads aboveThumb 0 1 2 0 0, ReachesAbove aboveThumb (issued x.2.1 x.2.2)) ∧
    (∃ x ∈ thumbStores aboveThumb 0 1 2 0 0, ReachesAbove aboveThumb (storeAt x.2.1 x.2.2)) ∧ Permits aboveThumb ((0 : BitVec 8) ≠ 0 ∨ true = true) ∧
    BlockReachesAbove aboveThumb (wordsFrom (aboveThumb.regs.get (phys aboveThumb.mode 13) - 4) 1) ∧
    BlockReachesAbove aboveThumb (wordsFrom (aboveThumb.lo 1) 2) :=
  ⟨by decide, ⟨(thumbLoads aboveThumb 0 1 2 0 0)[8], List.getElem_mem (by decide), reaches_above (by decide)⟩,
    ⟨(thumbStores aboveThumb 0 1 2 0 0)[5], List.getElem_mem (by decide), reaches_above (by decide)⟩, .inr (by decide),
    ⟨_, by decide, reaches_above (e := (0x04000404, .w32)) (by decide)⟩, ⟨_, by decide, reaches_above (e := (0x04000404, .w32)) (by decide)⟩⟩

theorem witness_shift_by_immediate : (0 : BitVec 5) = 0 ∧ (1 : BitVec 5) ≠ 0 ∧ (31 : BitVec 5) ≠ 0 := by decide

theorem witness_shift_by_register : (0 : Byte) = 0 ∧ (0 < (1 : Byte).toNat ∧ (31 : Byte).toNat < 32) ∧ (32 : Byte).toNat = 32 ∧
    (32 < (33 : Byte).toNat ∧ 32 < (255 : Byte).toNat) ∧ (32 ≤ (64 : Byte).toNat ∧ (64 : Byte).toNat % 32 = 0) ∧
    (32 ≤ (33 : Byte).toNat ∧ (33 : Byte).toNat % 32 ≠ 0) := by decide

theorem witness_register_reads : (13 : Reg) ≠ 15 ∧ arm.thumb = false ∧ thumb.thumb = true ∧ arm.cfg.pcStoreRead = .plus8 ∧
    ({ arm with cfg := { specConfig with pcStoreRead := .plus12 } } : State).cfg.pcStoreRead = .plus12 := by decide

theorem witness_skipped_only_advances : (Instr.swi .eq 0).isArm = true ∧ arm.thumb = false ∧ arm.passes (conditionOf (.swi .eq 0)) = false ∧
    arm.passes (conditionOf (.coprocOp .nv)) = false := by decide

theorem witness_data_processing : Arm arm .al ∧ compares .add = false ∧ (Operand2.imm ⟨0, 1⟩).byRegister = false ∧
    (Operand2.immShift ⟨2, .ror, 0⟩).byRegister = false ∧ ((15 : Reg) = 15 → false = false) :=
  ⟨witness_arm.1, by decide, by decide, by decide, by decide⟩

theorem witness_data_processing_by_register : Arm arm .al ∧ compares .mov = false ∧ (Operand2.regShift ⟨1, .lsl, 2⟩).byRegister = true ∧
    Permits arm ((0 : Reg) ≠ 15) ∧ Permits armEffect ((15 : Reg) ≠ 15) :=
  ⟨witness_arm.1, by decide, by decide, .inr (by decide), .inl rfl⟩

theorem witness_compares : Arm arm .al ∧ compares .cmp = true := ⟨witness_arm.1, by decide⟩

theorem witness_data_processing_return : Arm (supervisor (.arm 0)) .al ∧ compares .sub = false ∧ (Operand2.imm ⟨0, 4⟩).byRegister = false ∧
    (supervisor (.arm 0)).spsr.get (supervisor (.arm 0)).mode = some 0x6000001F ∧
    (Mode.ofBits ((0x6000001F : Word).extractLsb' 0 5)).isSome = true :=
  ⟨⟨by decide, by decide⟩, by decide, by decide, by decide, by decide⟩

/-- A supervisor-mode state whose SPSR names no mode. -/
def stray : State := { supervisor (.arm 0) with spsr := ⟨0, 0, 0, 0, 0⟩ }

/-- User mode about to run SWI. -/
def user : State := state specConfig 0x10 0x08000000 [] [] (.arm 0xEF000000)

theorem witness_mode_errors : Arm arm .al ∧ arm.modeLegal = true ∧ arm.mode = .sys ∧ Permits arm ((0 : Reg) ≠ 15) ∧
    Permits arm ((.inr ⟨0, 1⟩ : Reg ⊕ RotImm) ≠ .inl 15) ∧ Arm user .al ∧ user.modeLegal = true ∧ user.mode = .usr :=
  ⟨witness_arm.1, by decide, by decide, .inr (by decide), .inr nofun, ⟨by decide, by decide⟩, by decide, by decide⟩

theorem witness_mode_errors_return : Arm stray .al ∧ stray.modeLegal = true ∧ stray.spsr.get stray.mode = some 0 ∧
    (Mode.ofBits ((0 : Word).extractLsb' 0 5)).isSome = false ∧ compares .mov = false ∧
    ((Operand2.regShift ⟨0, .lsl, 1⟩).byRegister = true → armEffect.cfg.unpredictable = .arm7tdmi) ∧ (0x8000 : BitVec 16).getLsbD 15 = true ∧
    Permits stray ((0 : Reg) ≠ 15) ∧ Accessible stray (wordsFrom (blockFrom ⟨false, true, false⟩ (stray.reg 0) 1) 1) :=
  ⟨⟨by decide, by decide⟩, by decide, by decide, by decide, by decide, fun _ => rfl, by decide, .inr (by decide),
    by unfold Accessible; intro a h; rfl⟩

theorem witness_mode_errors_write :
    (let new := msrWord arm.cpsr (msrValue arm (.inl 2)) 1 (decide (arm.mode ≠ .usr))
     (Mode.ofBits (new.extractLsb' 0 5)).isSome = false ∧ Permits arm ((.inl 2 : Reg ⊕ RotImm) ≠ .inl 15 ∧ new.getLsbD 5 = false)) ∧
    (let new := msrWord arm.cpsr (msrValue arm (.inr ⟨0, 0xC0⟩)) 1 (decide (arm.mode ≠ .usr))
     (Mode.ofBits (new.extractLsb' 0 5)).isSome = false ∧ Permits arm ((.inr ⟨0, 0xC0⟩ : Reg ⊕ RotImm) ≠ .inl 15 ∧ new.getLsbD 5 = false)) :=
  ⟨⟨by decide, .inr ⟨by decide, by decide⟩⟩, by decide, .inr ⟨nofun, by decide⟩⟩

theorem witness_read_status : Arm (supervisor (.arm 0)) .al ∧ Permits (supervisor (.arm 0)) ((0 : Reg) ≠ 15) ∧
    (supervisor (.arm 0)).spsr.get (supervisor (.arm 0)).mode = some 0x6000001F :=
  ⟨⟨by decide, by decide⟩, .inr (by decide), by decide⟩

theorem witness_write_status :
    let new := msrWord arm.cpsr (msrValue arm (.inr ⟨0, 0xD3⟩)) 1 (decide (arm.mode ≠ .usr))
    Arm arm .al ∧ (Mode.ofBits (new.extractLsb' 0 5)).isSome = true ∧ Permits arm ((.inr ⟨0, 0xD3⟩ : Reg ⊕ RotImm) ≠ .inl 15 ∧ new.getLsbD 5 = false) :=
  ⟨witness_arm.1, by decide, .inr ⟨nofun, by decide⟩⟩

theorem witness_write_saved_status : Arm (supervisor (.arm 0)) .al ∧
    (supervisor (.arm 0)).spsr.get (supervisor (.arm 0)).mode = some 0x6000001F ∧ Permits (supervisor (.arm 0)) ((.inl 0 : Reg ⊕ RotImm) ≠ .inl 15) :=
  ⟨⟨by decide, by decide⟩, by decide, .inr (by decide)⟩

theorem witness_multiply : Arm arm .al ∧ Permits arm ((0 : Reg) ≠ 15 ∧ (1 : Reg) ≠ 15 ∧ (2 : Reg) ≠ 15 ∧ (0 : Reg) ≠ 1) ∧
    Permits arm ((0 : Reg) ≠ 15 ∧ (1 : Reg) ≠ 15 ∧ (2 : Reg) ≠ 15 ∧ (3 : Reg) ≠ 15 ∧ (0 : Reg) ≠ 1) ∧ thumb.thumb = true :=
  ⟨witness_arm.1, .inr (by decide), .inr (by decide), witness_thumb⟩

theorem witness_multiply_long : Arm arm .al ∧
    Permits arm ((0 : Reg) ≠ 15 ∧ (1 : Reg) ≠ 15 ∧ (2 : Reg) ≠ 15 ∧ (3 : Reg) ≠ 15 ∧ (0 : Reg) ≠ 1 ∧ (0 : Reg) ≠ 3 ∧ (1 : Reg) ≠ 3) :=
  ⟨witness_arm.1, .inr (by decide)⟩

theorem witness_loads : Arm arm .al ∧ Permits arm (wordRegular true false ⟨true, true, true⟩ 1 0 (.inr ⟨2, .lsl, 2⟩)) ∧
    (let e := issued .word (transferAddress ⟨true, true, true⟩ (arm.reg 1) (wordOffset arm (.inr ⟨2, .lsl, 2⟩)))
     accessFaults arm.cfg e.1 e.2 = false) :=
  ⟨witness_arm.1, .inr ⟨by decide, by decide, (fun o h => by cases h; decide), by decide⟩, by decide⟩

theorem witness_halfword_loads : Arm arm .al ∧ Permits arm (halfRegular true ⟨true, false, true⟩ 1 0 (.inr 2)) ∧
    (let e := issued .half (transferAddress ⟨true, false, true⟩ (arm.reg 1) (halfOffset arm (.inr 2)))
     accessFaults arm.cfg e.1 e.2 = false) :=
  ⟨witness_arm.1, .inr ⟨by decide, by decide, by decide, (fun o h => by cases h; decide), by decide⟩, by decide⟩

theorem witness_stores : Arm arm .al ∧ arm.mem.wf = true ∧ Permits arm (wordRegular false true ⟨false, true, true⟩ 1 15 (.inl 4)) ∧
    (let e := storeAt .byte (transferAddress ⟨false, true, true⟩ (arm.reg 1) (wordOffset arm (.inl 4)))
     accessFaults arm.cfg e.1 e.2 = false) ∧
    Permits arm (halfRegular false ⟨true, true, false⟩ 1 15 (.inl 4)) ∧
    (let e := storeAt .half (transferAddress ⟨true, true, false⟩ (arm.reg 1) (halfOffset arm (.inl 4)))
     accessFaults arm.cfg e.1 e.2 = false) :=
  ⟨witness_arm.1, by decide, .inr ⟨by decide, by decide, nofun, by decide⟩, by decide,
    .inr ⟨by decide, by decide, by decide, nofun, by decide⟩, by decide⟩

theorem witness_swaps : Arm arm .al ∧ arm.mem.wf = true ∧
    Permits arm ((1 : Reg) ≠ 15 ∧ (0 : Reg) ≠ 15 ∧ (2 : Reg) ≠ 15 ∧ (1 : Reg) ≠ 0 ∧ (1 : Reg) ≠ 2) ∧
    accessFaults arm.cfg (storeAt .word (arm.reg 1)).1 (storeAt .word (arm.reg 1)).2 = false :=
  ⟨witness_arm.1, by decide, .inr (by decide), by decide⟩

theorem witness_load_multiple : Arm (supervisor (.arm 0)) .al ∧ (0x2000 : BitVec 16).getLsbD 15 = false ∧
    Permits (supervisor (.arm 0)) ((0 : Reg) ≠ 15 ∧ (0x2000 : BitVec 16) ≠ 0 ∧ (true = true → (supervisor (.arm 0)).mode ≠ .usr ∧ false = false)) ∧
    Accessible (supervisor (.arm 0)) (wordsFrom (blockFrom ⟨false, true, false⟩ ((supervisor (.arm 0)).reg 0) 1) 1) :=
  ⟨⟨by decide, by decide⟩, by decide, .inr (by decide), by unfold Accessible; intro a h; rfl⟩

theorem witness_store_multiple : Arm arm .al ∧ arm.mem.wf = true ∧
    Permits arm ((13 : Reg) ≠ 15 ∧ (0xC003 : BitVec 16) ≠ 0 ∧ (false = true → arm.mode ≠ .usr ∧ true = false)) ∧
    Accessible arm (wordsFrom (blockFrom ⟨true, false, true⟩ (arm.reg 13) 4) 4) :=
  ⟨witness_arm.1, by decide, .inr (by decide), by unfold Accessible; intro a h; rfl⟩

theorem witness_load_multiple_return : Arm (supervisor (.arm 0)) .al ∧ (0x8001 : BitVec 16).getLsbD 15 = true ∧
    (supervisor (.arm 0)).spsr.get (supervisor (.arm 0)).mode = some 0x6000001F ∧
    (Mode.ofBits ((0x6000001F : Word).extractLsb' 0 5)).isSome = true ∧ Permits (supervisor (.arm 0)) ((0 : Reg) ≠ 15) ∧
    Accessible (supervisor (.arm 0)) (wordsFrom (blockFrom ⟨false, true, false⟩ ((supervisor (.arm 0)).reg 0) 2) 2) :=
  ⟨⟨by decide, by decide⟩, by decide, by decide, by decide, .inr (by decide), by unfold Accessible; intro a h; rfl⟩

theorem witness_branches : Arm arm .al := witness_arm.1

theorem witness_branch_exchange : Arm arm .al ∧ Permits arm ((1 : Reg) ≠ 15 ∧ ((arm.reg 1).getLsbD 0 = false → (arm.reg 1).getLsbD 1 = false)) ∧
    thumb.thumb = true ∧ Permits thumb (false = false ∧ ((thumb.reg 1).getLsbD 0 = false → (thumb.reg 1).getLsbD 1 = false)) :=
  ⟨witness_arm.1, .inr (by decide), witness_thumb, .inr (by decide)⟩

theorem witness_thumb_high_and_address : thumb.thumb = true ∧ Permits thumb (8 ≤ (8 : Reg).val ∨ 8 ≤ (0 : Reg).val) :=
  ⟨witness_thumb, .inr (by decide)⟩

theorem witness_thumb_loads : thumb.thumb = true ∧
    accessFaults thumb.cfg (issued .word (thumb.lo 1 + thumb.lo 2)).1 (issued .word (thumb.lo 1 + thumb.lo 2)).2 = false := by decide

theorem witness_thumb_stores : thumb.thumb = true ∧ thumb.mem.wf = true ∧
    accessFaults thumb.cfg (storeAt .half (thumb.lo 1 + thumb.lo 2)).1 (storeAt .half (thumb.lo 1 + thumb.lo 2)).2 = false := by decide

theorem witness_thumb_multiple : thumb.thumb = true ∧ thumb.mem.wf = true ∧ Permits thumb ((0 : BitVec 8) ≠ 0 ∨ true = true) ∧
    Permits thumb ((3 : BitVec 8) ≠ 0) ∧ Accessible thumb (wordsFrom (thumb.regs.get (phys thumb.mode 13)) 1) ∧
    Accessible thumb (wordsFrom (thumb.lo 1) 2) ∧ Accessible thumb (wordsFrom (thumb.regs.get (phys thumb.mode 13) - 4) 1) :=
  ⟨witness_thumb, by decide, .inr (by decide), .inr (by decide), (by unfold Accessible; intro a h; rfl), (by unfold Accessible; intro a h; rfl),
    by unfold Accessible; intro a h; rfl⟩

theorem witness_thumb_branches : thumb.thumb = true ∧ thumb.passes .ne = true ∧ thumb.passes .eq = false := by decide

theorem witness_decode_encode : (Instr.ldmRet .al ⟨false, true, true⟩ 13 0x8001).wf = true ∧ (Instr.tBCond .ne 0xFE).wf = true := by decide

theorem witness_step_keeps_inv : arm.Inv ∧ ∃ t, step arm = .next t := ⟨⟨by decide, by decide, by decide⟩, _, rfl⟩

theorem witness_user_mode_left : user.mode = .usr ∧ ∃ t, step user = .next t ∧ t.mode = .svc := ⟨by decide, _, rfl, by decide⟩

theorem witness_images_never_change : arm.mem.wf = true ∧ (∃ t, step arm = .next t) ∧ transform arm.cfg 0x08000000 = .mapped .rom 0 ∧
    transform arm.cfg 0x3FFF = .mapped .bios 0x3FFF ∧ transform arm.cfg 0x4000 = .unmapped :=
  ⟨by decide, ⟨_, rfl⟩, by decide, by decide, by decide⟩

theorem witness_step_frame : ∃ t, step thumb = .next t := ⟨_, rfl⟩

theorem witness_collaborator_frame : (∃ t, act (.poke 0x04000200 1) arm = some t) ∧ (∃ t, act (.raise 3) arm = some t) ∧
    (∃ t, act (.setCost .code 0x08 .w32 .n 5) arm = some t) ∧ arm.mem.wf = true ∧ transform arm.cfg 0x08000000 = .mapped .rom 0 ∧
    transform arm.cfg 0x06018000 = .mapped .vram 0 ∧ transform arm.cfg 0x4000 = .unmapped ∧ (0x08 ≤ 0x0F ∧ 0x0F ≤ 0x0F) ∧ ¬ (0x08 ≤ 7 ∧ 7 ≤ 0x0F) ∧
    ¬ (0x08 ≤ 16 ∧ 16 ≤ 0x0F) :=
  ⟨⟨_, rfl⟩, ⟨_, rfl⟩, ⟨_, rfl⟩, by decide, by decide, by decide, by decide, by decide, by decide, by decide⟩

theorem witness_status_writers :
    (∃ t, exec (.msrReg .al true 9 14) (supervisor (.arm 0)) = .next t ∧ t.spsr.get .svc ≠ (supervisor (.arm 0)).spsr.get .svc) ∧
    (∃ t, exec (.bx .al 2) armEffect = .next t ∧ t.cpsr.extractLsb' 0 28 = armEffect.cpsr.extractLsb' 0 28) ∧
    ∃ t, exec (.swi .al 0) arm = .next t ∧ t.cpsr.extractLsb' 0 28 ≠ arm.cpsr.extractLsb' 0 28 :=
  ⟨⟨_, rfl, by decide⟩, ⟨_, rfl, by decide⟩, ⟨_, rfl, by decide⟩⟩

theorem witness_banked_registers_kept : (∀ r : Reg, phys (supervisor (.arm 0)).mode r ≠ .r13_usr) ∧
    ∃ t, exec (.ldmUser .al ⟨false, true, false⟩ 0 0x2000) (supervisor (.arm 0)) = .next t ∧
      t.regs.get .r13_usr ≠ (supervisor (.arm 0)).regs.get .r13_usr :=
  ⟨by decide, _, rfl, by decide⟩

theorem witness_unpredictable_faults : Unpredictable .mulRdEqRm (.mul .al false 0 2 0) arm ∧ Unpredictable .bxPc (.bx .al 15) arm ∧
    Unpredictable .ldstWbRn15 (.ldrImm .al ⟨true, true, true⟩ 15 0 4) arm ∧ arm.cfg.unpredictable = .fault ∧
    arm.thumb = !(Instr.mul .al false 0 2 0).isArm ∧ arm.passes (conditionOf (.mul .al false 0 2 0)) = true ∧
    Unpredictable .thumbPushpopEmpty (.tPush false 0) thumb ∧ thumb.thumb = !(Instr.tPush false 0).isArm :=
  ⟨.mulEq _ _ _ _ _, .bxPc _ _, .loadBack15 _ false .al ⟨true, true, true⟩ 0 (.inl 4) rfl, by decide, by decide, by decide,
    .stackEmpty _ _ (by decide), by decide⟩

theorem witness_every_instruction_completes : armEffect.cfg.unpredictable = .arm7tdmi ∧ armEffect.cfg.oow = .discard := by decide

end Sys2Proof.Tests
end

/-! # The bank map and the boot values (10_state.md R31, R36, R37, R60) -/

section BankMap

namespace Sys2Proof.Machine

/-- The number a physical register has in every mode that sees it (10_state.md R31). -/
def Phys.number : Phys → Reg
  | .r0 => 0
  | .r1 => 1
  | .r2 => 2
  | .r3 => 3
  | .r4 => 4
  | .r5 => 5
  | .r6 => 6
  | .r7 => 7
  | .r8_usr | .r8_fiq => 8
  | .r9_usr | .r9_fiq => 9
  | .r10_usr | .r10_fiq => 10
  | .r11_usr | .r11_fiq => 11
  | .r12_usr | .r12_fiq => 12
  | .r13_usr | .r13_fiq | .r13_irq | .r13_svc | .r13_abt | .r13_und => 13
  | .r14_usr | .r14_fiq | .r14_irq | .r14_svc | .r14_abt | .r14_und => 14
  | .r15 => 15

@[simp] theorem Phys.number_phys (m : Mode) (i : Reg) : (phys m i).number = i := by
  revert i; cases m <;> decide

/-- The table of R31: when two modes share the register of a number. -/
theorem phys_eq_phys_iff (m m' : Mode) (i : Reg) : phys m i = phys m' i ↔
    i.val < 8 ∨ i.val = 15 ∨ (i.val < 13 ∧ (m = .fiq ↔ m' = .fiq)) ∨ m = m' ∨ (m ∈ [Mode.usr, Mode.sys] ∧ m' ∈ [Mode.usr, Mode.sys]) := by
  revert i; cases m <;> cases m' <;> decide

theorem State.reg_of_ne (s : State) {i : Reg} (h : i ≠ 15) : s.reg i = s.regs.get (phys s.mode i) := by
  simp [State.reg, h]

theorem State.regLate_of_ne (s : State) {i : Reg} (h : i ≠ 15) : s.regLate i = s.reg i := by
  simp [State.regLate, h]

theorem State.reg_15_arm {s : State} (h : s.thumb = false) : s.reg 15 = s.regs.get .r15 + 8 := by
  simp [State.reg, State.ahead, State.pc, Regs.get_r15, h]

theorem State.reg_15_thumb {s : State} (h : s.thumb = true) : s.reg 15 = s.regs.get .r15 + 4 := by
  simp [State.reg, State.ahead, State.pc, Regs.get_r15, h]

theorem State.regLate_15_plus8 {s : State} (h : s.cfg.pcStoreRead = .plus8) : s.regLate 15 = s.regs.get .r15 + 8 := by
  simp [State.regLate, State.pc, Regs.get_r15, h]

theorem State.regLate_15_plus12 {s : State} (h : s.cfg.pcStoreRead = .plus12) : s.regLate 15 = s.regs.get .r15 + 12 := by
  simp [State.regLate, State.pc, Regs.get_r15, h]

/-- Settles O18: a register's number is a function of the register, so different numbers never share one; the rest is read off the bank map. -/
theorem registerReads : Obligations.RegisterReads := by
  unfold Obligations.RegisterReads
  refine ⟨phys_eq_phys_iff, fun m m' i j h => ?_, fun s i hi => ⟨s.reg_of_ne hi, s.regLate_of_ne hi⟩, fun _ => State.reg_15_arm,
    fun _ => State.reg_15_thumb, fun _ => State.regLate_15_plus8, fun _ => State.regLate_15_plus12⟩
  simpa using congrArg Phys.number h

/-- Settles O1: the boot values of either mode, register by register. -/
theorem resetValues : Obligations.ResetValues := by
  unfold Obligations.ResetValues
  intro c code data images s
  refine ⟨fun p => ?_, ?_, fun m hm => ?_, rfl, rfl, rfl, rfl⟩
  · change (bootRegs c.boot).get p = _
    cases c.boot <;> cases p <;> rfl
  · change bootCpsr c.boot = _
    cases c.boot <;> rfl
  · change Spsrs.get ⟨0, 0, 0, 0, 0⟩ m = some 0
    revert m; decide

end Sys2Proof.Machine

end BankMap

/-! # What an instruction can write: the banks and the status words (10_state.md R33, R45 to R50) -/

section BankedState

open Sys2Proof.Claims

namespace Sys2Proof.Machine

/-! ## Writes through the bank map of the mode -/

/-- From `s` to `t` only registers that the mode of `s` sees have changed (R33), no SPSR (R50), and of CPSR only the flags (R45). -/
structure State.Confined (s t : State) : Prop where
  regs : ∀ p : Phys, (∀ r : Reg, phys s.mode r ≠ p) → t.regs.get p = s.regs.get p
  spsr : t.spsr = s.spsr
  control : t.cpsr.extractLsb' 0 28 = s.cpsr.extractLsb' 0 28

theorem modeField_of_control {v w : Word} (h : v.extractLsb' 0 28 = w.extractLsb' 0 28) : modeField v = modeField w := by
  apply modeField_ext
  intro j hj
  have hb := congrArg (BitVec.getLsbD · j) h
  have h28 : j < 28 := by omega
  simpa [h28] using hb

theorem control_withFlags (w : Word) (n z c v : Bool) : (withFlags w n z c v).extractLsb' 0 28 = w.extractLsb' 0 28 := by
  apply BitVec.eq_of_getLsbD_eq
  intro j hj
  have hne : j ≠ 28 ∧ j ≠ 29 ∧ j ≠ 30 ∧ j ≠ 31 := by omega
  simp [hj, withFlags_getLsbD, hne]

namespace State.Confined

variable {s t u : State}

theorem refl (s : State) : s.Confined s := ⟨fun _ _ => rfl, rfl, rfl⟩

theorem mode (h : s.Confined t) : t.mode = s.mode := by
  simp only [State.mode, modeField_of_control h.control]

theorem congr (h : s.Confined t) (hr : u.regs = t.regs) (hs : u.spsr = t.spsr) (hc : u.cpsr = t.cpsr) : s.Confined u :=
  ⟨fun p hp => by rw [hr, h.regs p hp], by rw [hs, h.spsr], by rw [hc, h.control]⟩

/-- One write through the bank map. -/
theorem write (h : s.Confined t) (i : Reg) {v : Word} (hr : u.regs = t.regs.set (phys s.mode i) v) (hs : u.spsr = t.spsr)
    (hc : u.cpsr = t.cpsr) : s.Confined u :=
  ⟨fun p hp => by rw [hr, Regs.get_set_ne _ _ (hp i).symm, h.regs p hp], by rw [hs, h.spsr], by rw [hc, h.control]⟩

theorem setPc (h : s.Confined t) (v : Word) : s.Confined (t.setPc v) := h.write 15 (by rw [phys_15]; rfl) rfl rfl

theorem branch (h : s.Confined t) (v : Word) : s.Confined (t.branch v) := h.setPc _

theorem internal (h : s.Confined t) (n : Nat) : s.Confined (t.internal n) := h.congr rfl rfl rfl

theorem charge (h : s.Confined t) (k : Kind) (q : Seq) (w : Width) (a : Word) : s.Confined (t.charge k q w a) := h.internal _

theorem advance (h : s.Confined t) : s.Confined t.advance := h.setPc _

theorem fetched (h : s.Confined t) : s.Confined t.fetched := (h.charge _ _ _ _).advance

theorem refill (h : s.Confined t) : s.Confined t.refill := (h.charge _ _ _ _).charge _ _ _ _

theorem nnext (h : s.Confined t) : s.Confined t.nnext := h.charge _ _ _ _

theorem jump (h : s.Confined t) (v : Word) : s.Confined (t.jump v) := (h.fetched.setPc v).refill

theorem writeFlags (h : s.Confined t) (n z c v : Bool) : s.Confined (t.writeFlags n z c v) :=
  ⟨h.regs, h.spsr, by rw [State.writeFlags_cpsr, control_withFlags, h.control]⟩

theorem aluFlags (h : s.Confined t) (o : Alu) : s.Confined (t.aluFlags o) := h.writeFlags _ _ _ _

theorem setReg (h : s.Confined t) (i : Reg) (v : Word) : s.Confined (t.setReg i v) := by
  by_cases hi : i = 15
  · subst hi; exact h.branch v
  · exact h.write i (by rw [State.setReg_regs_of_ne t v hi, h.mode]) (by simp) (by simp)

theorem setLo (h : s.Confined t) (i : LoReg) (v : Word) : s.Confined (t.setLo i v) := h.setReg _ v

theorem writeBack (h : s.Confined t) (b : Bool) (i : Reg) (v : Word) : s.Confined (t.writeBack b i v) := by
  cases b
  · exact h
  · exact h.setReg i v

theorem storeValue (h : s.Confined t) (k : StoreKind) (a v : Word) : s.Confined (t.storeValue k a v) :=
  h.congr (by simp) (by simp) (by simp)

theorem chargeBlock (h : s.Confined t) (q : Seq) (ps : List (Reg × Word)) : s.Confined (t.chargeBlock q ps) := by
  obtain ⟨hr, hc, hs, -⟩ := State.chargeBlock_keeps ps t q
  exact h.congr hr hs hc

theorem storeWords (h : s.Confined t) (ps : List (Word × Word)) : s.Confined (t.storeWords ps) := by
  obtain ⟨hr, hc, hs, -⟩ := State.storeWords_keeps ps t
  exact h.congr hr hs hc

theorem loadRegs (h : s.Confined t) (ps : List (Reg × Word)) : s.Confined (t.loadRegs false ps) := by
  induction ps generalizing t with
  | nil => exact h
  | cons x ps ih => exact ih (h.setReg x.1 (t.read32 x.2))

/-- Either branch of a choice of states. -/
theorem ite {c : Prop} [Decidable c] (ht : s.Confined t) (hu : s.Confined u) : s.Confined (if c then t else u) := by
  split
  · exact ht
  · exact hu

end State.Confined

/-! ## The shared operations that stay within the bank map -/

section SharedOperations

variable {s t : State}

theorem State.load_confined {k : LoadKind} {a : Word} {rd : Reg} {wb : Bool} {rn : Reg} {back : Word}
    (h : s.load k a rd wb rn back = .next t) : s.Confined t := by
  have hu := (((((Confined.refl s).charge .data .n (k.width a) (k.addr a)).fetched.internal 1).writeBack wb rn back).setReg rd
    (s.loadValue k a))
  rw [State.load_next h]
  exact .ite hu.refill hu

theorem State.store_confined {k : StoreKind} {a v : Word} {wb : Bool} {rn : Reg} {back : Word}
    (h : s.store k a v wb rn back = .next t) : s.Confined t := by
  rw [State.store_next h]
  exact ((((Confined.refl s).charge _ _ _ _).advance.storeValue _ _ _).writeBack _ _ _).nnext

theorem State.swapAt_confined {k : LoadKind} {w : StoreKind} {a : Word} {rd rm : Reg} (h : s.swapAt k w a rd rm = .next t) :
    s.Confined t := by
  rw [State.swapAt_next h]
  exact (((((Confined.refl s).charge _ _ _ _).charge _ _ _ _).fetched.internal 1).storeValue _ _ _).setReg _ _

theorem State.loadBlock_confined {early : Bool} {start : Word} {rs : List Reg} {wb : Bool} {rn : Reg} {back : Word}
    (h : s.loadBlock false early start rs wb rn back = .next t) : s.Confined t := by
  have hu := (((((Confined.refl s).chargeBlock .n (blockPairs start rs)).fetched.internal 1).writeBack wb rn back).loadRegs
    (blockPairs start rs))
  rw [State.loadBlock_next h]
  exact .ite hu.refill hu

theorem State.storeBlock_confined {user early : Bool} {start : Word} {rs : List Reg} {wb : Bool} {rn : Reg} {back : Word}
    (h : s.storeBlock user early start rs wb rn back = .next t) : s.Confined t := by
  rw [State.storeBlock_next h]
  exact ((((Confined.refl s).chargeBlock _ _).advance.storeWords _).writeBack _ _ _).nnext

theorem State.mulWrite_confined {f : Bool} {rd : Reg} {r : Word} {n : Nat} (h : s.mulWrite f rd r n = .next t) : s.Confined t := by
  have hu := (((Confined.refl s).fetched.internal n).setReg rd r)
  cases h
  exact .ite (hu.writeFlags _ _ _ _) hu

theorem State.mullWrite_confined {f : Bool} {hi lo : Reg} {p : DWord} {n : Nat} (h : s.mullWrite f hi lo p n = .next t) :
    s.Confined t := by
  have hu := ((((Confined.refl s).fetched.internal n).setReg lo (p.extractLsb' 0 32)).setReg hi (p.extractLsb' 32 32))
  cases h
  exact .ite (hu.writeFlags _ _ _ _) hu

theorem State.thumbWrite_confined {rd : LoReg} {o : Alu} (h : s.thumbWrite rd o = .next t) : s.Confined t := by
  cases h
  exact ((Confined.refl s).fetched.aluFlags o).setLo rd _

theorem State.thumbCompare_confined {o : Alu} (h : s.thumbCompare o = .next t) : s.Confined t := by
  cases h
  exact (Confined.refl s).fetched.aluFlags o

theorem State.thumbShift_confined {ty : ShiftType} {rs rd : LoReg} (h : s.thumbShift ty rs rd = .next t) : s.Confined t := by
  cases h
  exact (((Confined.refl s).fetched.internal 1).aluFlags _).setLo rd _

theorem State.hiWrite_confined {d : Reg} {v : Word} (h : s.hiWrite d v = .next t) : s.Confined t := by
  cases h
  exact .ite ((Confined.refl s).fetched.branch v).refill ((Confined.refl s).fetched.setReg d v)

theorem execMrs_confined {c : Cond} {r : Bool} {rd : Reg} (h : execMrs c r rd s = .next t) : s.Confined t := by
  rcases State.gate_next h with ⟨_, rfl⟩ | ⟨_, h⟩
  · exact (State.Confined.refl s).fetched
  · replace h := State.guarded_next h
    split at h
    · cases h; exact (State.Confined.refl s).fetched.setReg rd _
    · cases h

end SharedOperations

/-! ## The writes that leave the bank map -/

/-- A user-bank load writes no register outside the user bank (R34). -/
theorem State.loadRegs_user_get {p : Phys} (hp : ∀ r : Reg, phys .usr r ≠ p) (ps : List (Reg × Word)) (s : State) :
    (s.loadRegs true ps).regs.get p = s.regs.get p := by
  induction ps generalizing s with
  | nil => rfl
  | cons x ps ih =>
    have hx : (s.setUserReg x.1 (s.read32 x.2)).regs.get p = s.regs.get p := by
      by_cases h15 : x.1 = 15
      · rw [h15]; exact Regs.get_set_ne _ _ (hp 15).symm
      · rw [State.setUserReg_eq s _ h15]; exact Regs.get_set_ne _ _ (hp x.1).symm
    exact (ih _).trans hx

theorem State.undefinedEncoding_next {s t : State} (h : s.undefinedEncoding = .next t) :
    t = s.fetched ∨ (s.cfg.undef = .trap ∧ t = s.trap .undefined) := by
  unfold State.undefinedEncoding at h
  split at h
  · cases h; exact .inl rfl
  · rename_i hu; cases h; exact .inr ⟨hu, rfl⟩

theorem Spsrs.get_set (p : Spsrs) (m k : Mode) (v : Word) :
    (p.set m v).get k = if k = m then (p.get m).map fun _ => v else p.get k := by
  cases m <;> cases k <;> rfl

theorem Spsrs.get_set_ne (p : Spsrs) {m k : Mode} (v : Word) (h : k ≠ m) : (p.set m v).get k = p.get k := by
  rw [Spsrs.get_set, if_neg h]

theorem State.trap_regs (s : State) (e : Exc) :
    (s.trap e).regs = (s.fetched.regs.set (phys e.mode 14) (s.pc + s.ilen)).set .r15 e.vector := rfl

theorem State.trap_spsr (s : State) (e : Exc) : (s.trap e).spsr = s.spsr.set e.mode s.cpsr := rfl

/-! ## What each instruction does -/

/-- The ways an instruction can change the banks and the status words. All but the first are of a few instructions each. -/
inductive Effect (s : State) (i : Instr) (t : State) : Prop
  /-- Only what the mode sees, and the flags. -/
  | confined (h : s.Confined t)
  /-- MSR to SPSR (R284). -/
  | msrSpsr (c : Cond) (mask : BitVec 4) (x : Reg ⊕ RotImm) (v : Word) (hi : i = msr c true mask x)
      (ht : t = { s.fetched with spsr := s.spsr.set s.mode v })
  /-- MSR to CPSR (R283). -/
  | msrCpsr (c : Cond) (mask : BitVec 4) (x : Reg ⊕ RotImm) (v : Word) (hi : i = msr c false mask x)
      (ht : t = { s.fetched with cpsr := s.msrCpsr mask v })
  /-- BX of either table (R376, R432). -/
  | exchange (v : Word) (hi : (∃ c rm, i = .bx c rm) ∨ ∃ h1 rm, i = .tBx h1 rm) (ht : t = s.exchange v)
  /-- An exception raised by the instruction (R380, R390, R501). -/
  | trap (e : Exc) (hi : (e = .softwareInterrupt ∧ CallsSupervisor i) ∨ (e = .undefined ∧ Undefined i ∧ s.cfg.undef = .trap))
      (ht : t = s.trap e)
  /-- A return from an exception (R259, R357), after what the instruction did before it. -/
  | returned (u : State) (v a : Word) (hi : Returns i) (hu : s.Confined u) (hv : s.spsr.get s.mode = some v)
      (ht : t = (({ u with cpsr := v } : State).setPc a).refill)
  /-- The user-bank load (R356). -/
  | userLoad (u : State) (c : Cond) (m : Idx) (rn : Reg) (list : BitVec 16) (hi : i = .ldmUser c m rn list) (hu : s.Confined u)
      (hr : ∀ p, (∀ r : Reg, phys .usr r ≠ p) → t.regs.get p = u.regs.get p) (hs : t.spsr = u.spsr) (hc : t.cpsr = u.cpsr)

namespace Effect

variable {s t : State} {i : Instr} {c : Cond}

/-- A skipped instruction only advances (R582), so a conditional one has the effect it has when its condition passes. -/
theorem gated {k : Result} (h : s.gate c k = .next t) (hk : k = .next t → Effect s i t) : Effect s i t := by
  rcases State.gate_next h with ⟨_, rfl⟩ | ⟨_, h⟩
  · exact .confined (State.Confined.refl s).fetched
  · exact hk h

theorem exceptionReturn {u stuck : State} {r : ReturnAlign} {a : Word} (hi : Returns i) (hu : s.Confined u)
    (h : u.exceptionReturn stuck r a = .next t) : Effect s i t := by
  obtain ⟨v, hv, _, ht⟩ := State.exceptionReturn_next h
  exact .returned u v _ hi hu (by rw [← hv, hu.spsr, hu.mode]) ht

/-- The result of a data-processing operation: only with S = 1 and Rd = 15 is it a return (R259). -/
theorem dpWrite {u : State} {f : Bool} {rd : Reg} {o : Alu} (hi : f = true → rd = 15 → Returns i) (hu : s.Confined u)
    (h : s.dpWrite u f rd o = .next t) : Effect s i t := by
  rcases State.dpWrite_next h with ⟨hr, hf, h⟩ | ⟨_, _, rfl⟩ | ⟨_, rfl⟩
  · exact exceptionReturn (hi hf hr) hu h
  · exact .confined (hu.branch _).refill
  · exact .confined ((State.Confined.ite (hu.aluFlags o) hu).setReg rd _)

theorem returns_dp {op : DpOp} {f : Bool} {rd rn : Reg} {x : Operand2} (hop : compares op = false) (hi : i = dp op c f rn rd x)
    (hf : f = true) (hr : rd = 15) : Returns i := by
  subst hf hr
  exact .inl ⟨op, c, rn, x, hop, hi⟩

/-- A data-processing instruction whose operand 2 is no register shift. -/
theorem dataProcessing (op : DpOp) (x : Operand2) {f : Bool} {rd rn : Reg} {o : Alu} (hop : compares op = false)
    (hi : i = dp op c f rn rd x) (h : s.gate c (s.dpWrite s.fetched f rd o) = .next t) : Effect s i t :=
  gated h fun h => dpWrite (returns_dp hop hi) (State.Confined.refl s).fetched h

/-- The register-shift form, with its internal cycle and its UNPREDICTABLE case (R251). -/
theorem dpByRegister (op : DpOp) (o : RegShift) {f : Bool} {rd rn : Reg} {r : Alu} {cs : List (Bool × Unpred)}
    (hop : compares op = false) (hi : i = dp op c f rn rd (.regShift o))
    (h : s.gate c (s.guarded cs (s.dpWrite (s.fetched.internal 1) f rd r)) = .next t) : Effect s i t :=
  gated h fun h => dpWrite (returns_dp hop hi) ((State.Confined.refl s).fetched.internal 1) (State.guarded_next h)

theorem statusWrite {r : Bool} {mask : BitVec 4} {v : Word} {cs : List (Bool × Unpred)} (x : Reg ⊕ RotImm) (hi : i = Claims.msr c r mask x)
    (h : s.msr r mask v cs = .next t) : Effect s i t := by
  rcases State.msr_next h with ⟨rfl, _, _, ht⟩ | ⟨rfl, _, ht⟩
  · exact .msrSpsr c mask x _ hi ht
  · exact .msrCpsr c mask x _ hi ht

theorem undefinedEncoding (hi : Undefined i) (h : s.undefinedEncoding = .next t) : Effect s i t := by
  rcases State.undefinedEncoding_next h with rfl | ⟨hu, ht⟩
  · exact .confined (State.Confined.refl s).fetched
  · exact .trap _ (.inr ⟨rfl, hi, hu⟩) ht

theorem loadReturn {start : Word} {rs : List Reg} {wb : Bool} {rn : Reg} {back : Word} (hi : Returns i)
    (h : s.loadReturn start rs wb rn back = .next t) : Effect s i t :=
  exceptionReturn hi (((((State.Confined.refl s).chargeBlock .n _).fetched.internal 1).writeBack wb rn back).loadRegs _)
    (State.accessBlock_next h)

theorem userBankLoad {m : Idx} {base rn : Reg} {list : BitVec 16} {early wb : Bool} {start back : Word} {rs : List Reg}
    (h : s.loadBlock true early start rs wb rn back = .next t) : Effect s (.ldmUser c m base list) t := by
  have hu := (((State.Confined.refl s).chargeBlock .n (blockPairs start rs)).fetched.internal 1).writeBack wb rn back
  obtain ⟨hc, hs, -⟩ := State.loadRegs_keeps (blockPairs start rs)
    (((s.chargeBlock .n (blockPairs start rs)).fetched.internal 1).writeBack wb rn back) true
  have hr := fun p hp => State.loadRegs_user_get (p := p) hp (blockPairs start rs)
    (((s.chargeBlock .n (blockPairs start rs)).fetched.internal 1).writeBack wb rn back)
  rw [State.loadBlock_next h]
  split
  · exact .userLoad _ c m base list rfl hu hr hs hc
  · exact .userLoad _ c m base list rfl hu hr hs hc

end Effect

/-- What any instruction that completes has done to the banks and the status words. -/
theorem exec_effect {s t : State} {i : Instr} (h : exec i s = .next t) : Effect s i t := by
  have h0 := State.Confined.refl s
  cases i with
  | mul | mla => exact .gated h fun h => .confined (State.mulWrite_confined (State.guarded_next h))
  | umull | umlal | smull | smlal => exact .gated h fun h => .confined (State.mullWrite_confined (State.guarded_next h))
  | swp | swpb => exact .gated h fun h => .confined (State.swapAt_confined (State.guarded_next h))
  | strhReg | strhImm | strtImm | strtReg | strbtImm | strbtReg | strImm | strReg | strbImm | strbReg =>
    exact .gated h fun h => .confined (State.store_confined (State.guarded_next h))
  | ldrhReg | ldrhImm | ldrsbReg | ldrsbImm | ldrshReg | ldrshImm | ldrtImm | ldrtReg | ldrbtImm | ldrbtReg | ldrImm | ldrReg | ldrbImm
  | ldrbReg => exact .gated h fun h => .confined (State.load_confined (State.guarded_next h))
  | mrs => exact .confined (execMrs_confined h)
  | msrReg c r mask rm => exact .gated h (.statusWrite (.inl rm) rfl)
  | msrImm c r mask o => exact .gated h (.statusWrite (.inr o) rfl)
  | bx c rm =>
    refine .gated h fun h => ?_
    cases State.guarded_next h
    exact .exchange _ (.inl ⟨c, rm, rfl⟩) rfl
  | undefMul c | undefSwp c | undefHalfwordStore c | undefMisc c | undefImmCmp c | undefMedia c | coprocXfer c | coprocOp c =>
    exact .gated h (.undefinedEncoding (.inl ⟨c, by simp [armUndefined]⟩))
  | andImm c f rn rd o => exact .dataProcessing .and (.imm o) (rn := rn) rfl rfl h
  | andImmShift c f rn rd o => exact .dataProcessing .and (.immShift o) (rn := rn) rfl rfl h
  | andRegShift c f rn rd o => exact .dpByRegister .and o (rn := rn) rfl rfl h
  | eorImm c f rn rd o => exact .dataProcessing .eor (.imm o) (rn := rn) rfl rfl h
  | eorImmShift c f rn rd o => exact .dataProcessing .eor (.immShift o) (rn := rn) rfl rfl h
  | eorRegShift c f rn rd o => exact .dpByRegister .eor o (rn := rn) rfl rfl h
  | subImm c f rn rd o => exact .dataProcessing .sub (.imm o) (rn := rn) rfl rfl h
  | subImmShift c f rn rd o => exact .dataProcessing .sub (.immShift o) (rn := rn) rfl rfl h
  | subRegShift c f rn rd o => exact .dpByRegister .sub o (rn := rn) rfl rfl h
  | rsbImm c f rn rd o => exact .dataProcessing .rsb (.imm o) (rn := rn) rfl rfl h
  | rsbImmShift c f rn rd o => exact .dataProcessing .rsb (.immShift o) (rn := rn) rfl rfl h
  | rsbRegShift c f rn rd o => exact .dpByRegister .rsb o (rn := rn) rfl rfl h
  | addImm c f rn rd o => exact .dataProcessing .add (.imm o) (rn := rn) rfl rfl h
  | addImmShift c f rn rd o => exact .dataProcessing .add (.immShift o) (rn := rn) rfl rfl h
  | addRegShift c f rn rd o => exact .dpByRegister .add o (rn := rn) rfl rfl h
  | adcImm c f rn rd o => exact .dataProcessing .adc (.imm o) (rn := rn) rfl rfl h
  | adcImmShift c f rn rd o => exact .dataProcessing .adc (.immShift o) (rn := rn) rfl rfl h
  | adcRegShift c f rn rd o => exact .dpByRegister .adc o (rn := rn) rfl rfl h
  | sbcImm c f rn rd o => exact .dataProcessing .sbc (.imm o) (rn := rn) rfl rfl h
  | sbcImmShift c f rn rd o => exact .dataProcessing .sbc (.immShift o) (rn := rn) rfl rfl h
  | sbcRegShift c f rn rd o => exact .dpByRegister .sbc o (rn := rn) rfl rfl h
  | rscImm c f rn rd o => exact .dataProcessing .rsc (.imm o) (rn := rn) rfl rfl h
  | rscImmShift c f rn rd o => exact .dataProcessing .rsc (.immShift o) (rn := rn) rfl rfl h
  | rscRegShift c f rn rd o => exact .dpByRegister .rsc o (rn := rn) rfl rfl h
  | orrImm c f rn rd o => exact .dataProcessing .orr (.imm o) (rn := rn) rfl rfl h
  | orrImmShift c f rn rd o => exact .dataProcessing .orr (.immShift o) (rn := rn) rfl rfl h
  | orrRegShift c f rn rd o => exact .dpByRegister .orr o (rn := rn) rfl rfl h
  | movImm c f rd o => exact .dataProcessing .mov (.imm o) (rn := 0) rfl rfl h
  | movImmShift c f rd o => exact .dataProcessing .mov (.immShift o) (rn := 0) rfl rfl h
  | movRegShift c f rd o => exact .dpByRegister .mov o (rn := 0) rfl rfl h
  | bicImm c f rn rd o => exact .dataProcessing .bic (.imm o) (rn := rn) rfl rfl h
  | bicImmShift c f rn rd o => exact .dataProcessing .bic (.immShift o) (rn := rn) rfl rfl h
  | bicRegShift c f rn rd o => exact .dpByRegister .bic o (rn := rn) rfl rfl h
  | mvnImm c f rd o => exact .dataProcessing .mvn (.imm o) (rn := 0) rfl rfl h
  | mvnImmShift c f rd o => exact .dataProcessing .mvn (.immShift o) (rn := 0) rfl rfl h
  | mvnRegShift c f rd o => exact .dpByRegister .mvn o (rn := 0) rfl rfl h
  | tstImm | tstImmShift | teqImm | teqImmShift | cmpImm | cmpImmShift | cmnImm | cmnImmShift =>
    exact .gated h fun h => by cases h; exact .confined (h0.fetched.aluFlags _)
  | tstRegShift | teqRegShift | cmpRegShift | cmnRegShift =>
    exact .gated h fun h => by cases h; exact .confined ((h0.fetched.internal 1).aluFlags _)
  | ldmRet c m rn list => exact .gated h fun h => .loadReturn (.inr ⟨c, m, rn, list, rfl⟩) (State.guarded_next h)
  | ldmUser => exact .gated h fun h => .userBankLoad (State.guarded_next h)
  | ldm => exact .gated h fun h => .confined (State.loadBlock_confined (State.guarded_next h))
  | stmUser | stm => exact .gated h fun h => .confined (State.storeBlock_confined (State.guarded_next h))
  | b => exact .gated h fun h => by cases h; exact .confined (h0.jump _)
  | bl => exact .gated h fun h => by cases h; exact .confined ((h0.fetched.setReg 14 _).setPc _).refill
  | swi c comment => exact .gated h fun h => by cases h; exact .trap _ (.inl ⟨rfl, .inl ⟨c, comment, rfl⟩⟩) rfl
  | tLslImm | tLsrImm | tAsrImm | tAddReg | tSubReg | tAddImm3 | tSubImm3 | tMovImm | tAddImm8 | tSubImm8 | tAnd | tEor | tAdc | tSbc
  | tNeg | tOrr | tBic | tMvn => exact .confined (State.thumbWrite_confined h)
  | tCmpImm | tTst | tCmp | tCmn => exact .confined (State.thumbCompare_confined h)
  | tLsl | tLsr | tAsr | tRor => exact .confined (State.thumbShift_confined h)
  | tMul => cases h; exact .confined (((h0.fetched.internal _).setLo _ _).writeFlags _ _ _ _)
  | tAddHi | tMovHi => exact .confined (State.hiWrite_confined (State.guarded_next h))
  | tCmpHi => exact .confined (State.thumbCompare_confined (State.guarded_next h))
  | tBx h1 rm =>
    cases State.guarded_next h
    exact .exchange _ (.inr ⟨h1, rm, rfl⟩) rfl
  | tLdrPc | tLdsbReg | tLdrReg | tLdrhReg | tLdrbReg | tLdshReg | tLdrImm | tLdrbImm | tLdrhImm | tLdrSp =>
    exact .confined (State.load_confined h)
  | tStrReg | tStrhReg | tStrbReg | tStrImm | tStrbImm | tStrhImm | tStrSp => exact .confined (State.store_confined h)
  | tAddPc | tAddSp => cases h; exact .confined (h0.fetched.setLo _ _)
  | tAddSpImm => cases h; exact .confined (h0.fetched.setReg 13 _)
  | tPush | tStmia => exact .confined (State.storeBlock_confined (State.guarded_next h))
  | tPop | tLdmia => exact .confined (State.loadBlock_confined (State.guarded_next h))
  | tUndef1011 | tUndefDe | tUndefE8 => exact .undefinedEncoding (.inr (by simp [thumbUndefined])) h
  | tSwi comment => cases h; exact .trap _ (.inl ⟨rfl, .inr ⟨comment, rfl⟩⟩) rfl
  | tBCond => cases h; exact .confined (.ite (h0.jump _) h0.fetched)
  | tB => cases h; exact .confined (h0.jump _)
  | tBlHi => cases h; exact .confined (h0.fetched.setReg 14 _)
  | tBlLo => cases h; exact .confined ((h0.fetched.setReg 14 _).setPc _).refill

/-! ## The two statements -/

/-- Settles O57: of the ways an instruction can change the status words, those that are confined to the bank map change no SPSR and only the
flags of CPSR, and each other way is of the instructions the statement lists. -/
theorem statusWriters : Obligations.StatusWriters := by
  unfold Obligations.StatusWriters
  intro s t i h
  refine ⟨fun k hk => ?_, fun hcontrol => ?_⟩
  · cases exec_effect h with
    | confined h => exact absurd (by rw [h.spsr]) hk
    | msrSpsr c mask x v hi ht =>
      have hmode : k = s.mode := by
        by_contra hne
        exact hk (by rw [ht]; exact Spsrs.get_set_ne _ _ hne)
      exact .inl ⟨hmode, c, mask, x, hi⟩
    | msrCpsr c mask x v hi ht => exact absurd (by rw [ht]; rfl) hk
    | exchange v hi ht => exact absurd (by rw [ht]; rfl) hk
    | trap e hi ht =>
      have hmode : k = e.mode := by
        by_contra hne
        exact hk (by rw [ht, State.trap_spsr, Spsrs.get_set_ne _ _ hne])
      rcases hi with ⟨rfl, hi⟩ | ⟨rfl, hi⟩
      · exact .inr (.inl ⟨hmode, hi⟩)
      · exact .inr (.inr ⟨hmode, hi⟩)
    | returned u v a hi hu hv ht => exact absurd (by rw [ht, ← hu.spsr]; rfl) hk
    | userLoad u c m rn list hi hu hr hs hc => exact absurd (by rw [hs, hu.spsr]) hk
  · cases exec_effect h with
    | confined h => exact absurd h.control hcontrol
    | msrSpsr c mask x v hi ht => exact absurd (by rw [ht]; rfl) hcontrol
    | msrCpsr c mask x v hi ht => exact .inl ⟨c, mask, x, hi⟩
    | exchange v hi ht => exact .inr (hi.elim .inl (.inr ∘ .inl))
    | trap e hi ht =>
      rcases hi with ⟨_, hi⟩ | ⟨_, hi⟩
      · exact .inr (.inr (.inr (.inl hi)))
      · exact .inr (.inr (.inr (.inr (.inl hi))))
    | returned u v a hi hu hv ht => exact .inr (.inr (.inr (.inr (.inr hi))))
    | userLoad u c m rn list hi hu hr hs hc => exact absurd (by rw [hc, hu.control]) hcontrol

/-- Settles O58: a register that the mode does not see is none of those written through its bank map, and not register 15; what is left is
the user bank of the user-bank load and the link register of an exception. -/
theorem bankedRegistersKept : Obligations.BankedRegistersKept := by
  unfold Obligations.BankedRegistersKept
  intro s t i p h hp hchanged
  have h15 : p ≠ .r15 := phys_15 s.mode ▸ (hp 15).symm
  have hfetched : s.fetched.regs.get p = s.regs.get p := (State.Confined.refl s).fetched.regs p hp
  cases exec_effect h with
  | confined h => exact absurd (h.regs p hp) hchanged
  | msrSpsr c mask x v hi ht => exact absurd (by rw [ht]; exact hfetched) hchanged
  | msrCpsr c mask x v hi ht => exact absurd (by rw [ht]; exact hfetched) hchanged
  | exchange v hi ht => exact absurd (by rw [ht]; exact (Regs.get_set_ne _ _ h15).trans hfetched) hchanged
  | trap e hi ht =>
    have hlink : p = phys e.mode 14 := by
      by_contra hne
      exact hchanged (by rw [ht, State.trap_regs, Regs.get_set_ne _ _ h15, Regs.get_set_ne _ _ hne, hfetched])
    rcases hi with ⟨rfl, hi⟩ | ⟨rfl, hi⟩
    · exact .inr (.inl ⟨hlink, hi⟩)
    · exact .inr (.inr ⟨hlink, hi⟩)
  | returned u v a hi hu hv ht =>
    exact absurd (by rw [ht]; exact (Regs.get_set_ne _ _ h15).trans (hu.regs p hp)) hchanged
  | userLoad u c m rn list hi hu hr hs hc =>
    refine .inl ⟨⟨c, m, rn, list, hi⟩, ?_⟩
    by_contra hnone
    exact hchanged (by rw [hr p (fun r hr => hnone ⟨r, hr⟩), hu.regs p hp])

end Sys2Proof.Machine

end BankedState

/-! # Memory: the region table, byte writes and the images at reset (20_memory.md R87 to R110) -/

section MemoryMap

open Sys2Proof.Claims

namespace Sys2Proof.Machine

/-! ## The transform, page by page (R88) -/

section Pages

variable {c : Config} {a : Word}

theorem transform_bios (h : a.toNat ≤ 0x3FFF) : transform c a = .mapped .bios a.toNat := by
  have hp : a.toNat / 0x1000000 = 0x00 := by omega
  simp [transform, hp, h]

theorem transform_ewram (h : a.toNat / 0x1000000 = 0x02) : transform c a = .mapped .ewram (a.toNat % 0x40000) := by
  simp [transform, h]

theorem transform_iwram (h : a.toNat / 0x1000000 = 0x03) : transform c a = .mapped .iwram (a.toNat % 0x8000) := by
  simp [transform, h]

theorem transform_io (h : a.toNat / 0x1000000 = 0x04) :
    transform c a = if a.toNat ≤ c.ioWindowLast then .mapped .io (a.toNat - 0x04000000) else .outOfWindow := by
  simp [transform, h]

theorem transform_pal (h : a.toNat / 0x1000000 = 0x05) : transform c a = .mapped .pal (a.toNat % 0x400) := by
  simp [transform, h]

theorem transform_vram (h : a.toNat / 0x1000000 = 0x06) : transform c a = .mapped .vram (vramLocal c a.toNat) := by
  simp [transform, h]

theorem transform_oam (h : a.toNat / 0x1000000 = 0x07) : transform c a = .mapped .oam (a.toNat % 0x400) := by
  simp [transform, h]

theorem transform_rom (hlo : 0x8000000 ≤ a.toNat) (hhi : a.toNat < 0xE000000) :
    transform c a = if a.toNat % 0x2000000 < c.romSize then .mapped .rom (a.toNat % 0x2000000) else .unmapped := by
  have hp : a.toNat / 0x1000000 = 0x08 ∨ a.toNat / 0x1000000 = 0x09 ∨ a.toNat / 0x1000000 = 0x0A ∨ a.toNat / 0x1000000 = 0x0B ∨
      a.toNat / 0x1000000 = 0x0C ∨ a.toNat / 0x1000000 = 0x0D := by omega
  rcases hp with hp | hp | hp | hp | hp | hp <;> simp [transform, hp]

theorem transform_sram (hlo : 0xE000000 ≤ a.toNat) (hhi : a.toNat < 0x10000000) :
    transform c a = if a.toNat % 0x10000 < c.sramSize then .mapped .sram (a.toNat % 0x10000) else .unmapped := by
  have hp : a.toNat / 0x1000000 = 0x0E ∨ a.toNat / 0x1000000 = 0x0F := by omega
  rcases hp with hp | hp <;> simp [transform, hp]

theorem transform_above_bios (hlo : 0x4000 ≤ a.toNat) (hhi : a.toNat < 0x2000000) : transform c a = .unmapped := by
  have hp : a.toNat / 0x1000000 = 0x00 ∨ a.toNat / 0x1000000 = 0x01 := by omega
  have hbios : ¬ a.toNat ≤ 0x3FFF := by omega
  rcases hp with hp | hp <;> simp [transform, hp, hbios]

theorem transform_above_regions (h : 0x10000000 ≤ a.toNat) : transform c a = .unmapped := by
  unfold transform
  simp only
  split
  case h_16 => rfl
  all_goals omega

end Pages

/-! ## The bytes of the three images, as the transform finds them -/

theorem transform_biosByte {c : Config} {k : Nat} (hk : k < 0x4000) : transform c (BitVec.ofNat 32 k) = .mapped .bios k := by
  have hn : (BitVec.ofNat 32 k).toNat = k := by rw [BitVec.toNat_ofNat]; omega
  rw [transform_bios (by omega), hn]

theorem transform_romByte {c : Config} {k : Nat} (hk : k < c.romSize) (hc : c.romSize ≤ 0x2000000) :
    transform c (0x08000000 + BitVec.ofNat 32 k) = .mapped .rom k := by
  have hn : (0x08000000 + BitVec.ofNat 32 k).toNat = 0x08000000 + k := by simp; omega
  rw [transform_rom (by omega) (by omega), hn, show (0x08000000 + k) % 0x2000000 = k by omega, if_pos hk]

theorem transform_sramByte {c : Config} {k : Nat} (hk : k < c.sramSize) (hc : c.sramSize ≤ 0x10000) :
    transform c (0x0E000000 + BitVec.ofNat 32 k) = .mapped .sram k := by
  have hn : (0x0E000000 + BitVec.ofNat 32 k).toNat = 0x0E000000 + k := by simp; omega
  rw [transform_sram (by omega) (by omega), hn, show (0x0E000000 + k) % 0x10000 = k by omega, if_pos hk]

/-! ## The region table (R87, R97) -/

theorem vramLocal_of_lt {c : Config} {n : Nat} (h : n % 0x20000 < 0x18000) : vramLocal c n = n % 0x20000 := by
  simp only [vramLocal]
  exact if_neg (by omega)

/-- The video tail is folded onto the first 32 KiB (R97). -/
theorem vramLocal_of_base00000 {c : Config} {n : Nat} (ht : c.vramTail = .base00000) (h : 0x18000 ≤ n % 0x20000) :
    vramLocal c n = n % 0x20000 - 0x18000 := by
  simp only [vramLocal, ht]
  rw [if_pos h]
  omega

/-- The video tail is folded onto the last 32 KiB of the 96 (R97). -/
theorem vramLocal_of_base10000 {c : Config} {n : Nat} (ht : c.vramTail = .base10000) (h : 0x18000 ≤ n % 0x20000) :
    vramLocal c n = n % 0x20000 - 0x8000 := by
  simp only [vramLocal, ht]
  rw [if_pos h]
  omega

/-- Settles O9: each clause is the transform's page of the same addresses. -/
theorem regionTable : Obligations.RegionTable := by
  unfold Obligations.RegionTable
  intro c a hc n
  simp only [Config.wf, Bool.and_eq_true, decide_eq_true_eq] at hc
  obtain ⟨_, hlast⟩ := hc
  refine ⟨transform_bios, transform_above_bios, fun h1 h2 => transform_ewram (by omega),
    fun h1 h2 => transform_iwram (by omega), fun h1 h2 => ?_, fun h1 h2 => ?_, fun h1 h2 => transform_pal (by omega),
    fun h1 h2 hlt => ?_, fun h1 h2 hge => ?_, fun h1 h2 => transform_oam (by omega), fun h1 h2 hlt => ?_, fun h1 h2 hge => ?_,
    fun h1 h2 hlt => ?_, fun h1 h2 hge => ?_, transform_above_regions⟩
  · rw [transform_io (by omega), if_pos h2]
  · rw [transform_io (by omega), if_neg (by omega)]
  · rw [transform_vram (by omega), vramLocal_of_lt hlt]
  · rw [transform_vram (by omega)]
    cases ht : c.vramTail with
    | base00000 => rw [vramLocal_of_base00000 ht hge]
    | base10000 => rw [vramLocal_of_base10000 ht hge]
  · rw [transform_rom h1 h2, if_pos hlt]
  · rw [transform_rom h1 h2, if_neg (by omega)]
  · rw [transform_sram h1 h2, if_pos hlt]
  · rw [transform_sram h1 h2, if_neg (by omega)]

/-! ## A byte written (R89, R98) -/

theorem Region.writable_eq_false_iff (r : Region) : r.writable = false ↔ r = .bios ∨ r = .rom := by
  cases r <;> simp [Region.writable]

/-- A byte reads back as `written` says, whatever the region. -/
theorem State.readByte_writeByte_written (s : State) (a : Word) (x : Byte) (hm : s.mem.wf = true) :
    readByte s.cfg (writeByte s.cfg s.mem a x) a = written s a x := by
  cases h : transform s.cfg a with
  | mapped r l => simp only [readByte_writeByte_same x hm h, written, h, Region.writable_eq_false_iff, State.read8]
  | unmapped => simp only [readByte, written, h]
  | outOfWindow => simp only [readByte, written, h]

/-- Settles O10: a mirror of the place reads as the place itself, and another place keeps its byte. -/
theorem byteWrite : Obligations.ByteWrite := by
  unfold Obligations.ByteWrite
  intro s a b x hm
  split
  case isTrue hsame =>
    rw [readByte_of_transform _ hsame, s.readByte_writeByte_written a x hm]
  case isFalse hother =>
    exact readByte_writeByte_ne x hm hother

/-! ## The images at reset (R110) -/

/-- Two regions share no backing byte. -/
theorem Region.eq_of_backing {r r' : Region} {l l' : Nat} (hl : l < r.span) (hl' : l' < r'.span) (h : r.base + l = r'.base + l') :
    r = r' := by
  cases r <;> cases r' <;> simp only [Region.span, Region.base] at hl hl' h <;> first | rfl | (exfalso; omega)

/-- In canonical form a byte that a list of cells does not hold is looked up in the cells after it. -/
theorem Memory.get_append : ∀ {m : Memory} {lo : Nat} (m' : Memory) (a : Nat), m.wfFrom lo = true →
    Memory.get (m ++ m') a = if m.get a = unlisted then Memory.get m' a else m.get a
  | [], _, _, _, _ => by simp [Memory.get]
  | (k, b) :: m, _, m', a, h => by
    simp only [Memory.wfFrom, Bool.and_eq_true, decide_eq_true_eq] at h
    obtain ⟨⟨_, hb⟩, hm⟩ := h
    by_cases hk : k = a
    · simp [Memory.get, hk, hb]
    · simp [Memory.get, hk, Memory.get_append m' a hm]

theorem imageCells_get : ∀ (bs : List Byte) (k i : Nat), (imageCells k bs).get (k + i) = bs.getD i unlisted
  | [], _, _ => rfl
  | b :: bs, k, 0 => by
    have hrest : (imageCells (k + 1) bs).get k = unlisted := Memory.get_below (imageCells_wfFrom bs (k + 1)) (by omega)
    by_cases hb : b = unlisted
    · simp [imageCells, hb, hrest]
    · simp [imageCells, hb, Memory.get]
  | b :: bs, k, i + 1 => by
    have hrest := imageCells_get bs (k + 1) i
    rw [show k + 1 + i = k + (i + 1) by omega] at hrest
    by_cases hb : b = unlisted
    · simpa [imageCells, hb] using hrest
    · simpa [imageCells, hb, Memory.get] using hrest

/-- An image that fits a region holds that region's bytes and no other region's. -/
theorem imageCells_get_region {bs : List Byte} {r r' : Region} {l : Nat} (hbs : bs.length ≤ r'.span) (hl : l < r.span) :
    (imageCells r'.base bs).get (r.base + l) = if r = r' then bs.getD l unlisted else unlisted := by
  split
  case isTrue hr =>
    rw [hr, imageCells_get]
  case isFalse hr =>
    by_cases hlow : r.base + l < r'.base
    · exact Memory.get_below (imageCells_wfFrom bs _) hlow
    · obtain ⟨i, hi⟩ := Nat.exists_eq_add_of_le (Nat.le_of_not_lt hlow)
      rw [hi, imageCells_get]
      apply List.getD_eq_default
      by_contra hlen
      exact hr (Region.eq_of_backing hl (by omega) hi)

/-- The image of a region at reset: the other regions have none. -/
def imageOf (bios rom sram : List Byte) : Region → List Byte
  | .bios => bios
  | .rom => rom
  | .sram => sram
  | .ewram | .iwram | .io | .pal | .vram | .oam => []

theorem imageOf_eq_nil {bios rom sram : List Byte} {r : Region} (h1 : r ≠ .bios) (h2 : r ≠ .rom) (h3 : r ≠ .sram) :
    imageOf bios rom sram r = [] := by
  cases r <;> simp_all [imageOf]

section Configured

variable {c : Config} {code data : CostTable} {bios rom sram : List Byte} {fiq : List Bool} {s : State}

theorem configure_eq_some (h : configure c code data bios rom sram fiq = some s) :
    bios.length = 0x4000 ∧ rom.length ≤ 0x2000000 ∧ sram.length ≤ 0x10000 ∧ s.cfg = { c with romSize := rom.length, sramSize := sram.length } ∧
      s.mem = imageCells Region.bios.base bios ++ imageCells Region.rom.base rom ++ imageCells Region.sram.base sram := by
  simp only [configure, Option.ite_none_right_eq_some, Bool.and_eq_true, decide_eq_true_eq, Config.wf] at h
  obtain ⟨⟨⟨⟨⟨hrom, hsram⟩, -⟩, -⟩, hbios⟩, hs⟩ := h
  cases hs
  exact ⟨hbios, hrom, hsram, rfl, rfl⟩

/-- After configure a byte of a region reads as the region's image has it, and as 0 where the image has none. -/
theorem configure_read8 (h : configure c code data bios rom sram fiq = some s) {a : Word} {r : Region} {l : Nat}
    (ha : transform s.cfg a = .mapped r l) : s.read8 a = (imageOf bios rom sram r).getD l 0 := by
  obtain ⟨hbios, hrom, hsram, -, hmem⟩ := configure_eq_some h
  have hl := transform_span ha
  have hb := imageCells_get_region (bs := bios) (r' := .bios) (by simp [Region.span, hbios]) hl
  have hr := imageCells_get_region (bs := rom) (r' := .rom) hrom hl
  have hs := imageCells_get_region (bs := sram) (r' := .sram) hsram hl
  simp only [State.read8, readByte, ha, hmem]
  rw [List.append_assoc, Memory.get_append _ _ (imageCells_wfFrom bios _), Memory.get_append _ _ (imageCells_wfFrom rom _), hb, hr, hs]
  cases r <;> simp +contextual [imageOf, unlisted]

/-- A byte that the image has is the byte that is read. -/
theorem configure_getElem? (h : configure c code data bios rom sram fiq = some s) {a : Word} {r : Region} {k : Nat}
    (ha : transform s.cfg a = .mapped r k) (hk : k < (imageOf bios rom sram r).length) :
    (imageOf bios rom sram r)[k]? = some (s.read8 a) := by
  simp [configure_read8 h ha, hk]

end Configured

/-- Settles O3: the three lists of image cells lie in regions that share no backing byte, so a byte of a region reads as its own image has it. -/
theorem resetMemory : Obligations.ResetMemory := by
  unfold Obligations.ResetMemory
  intro c code data bios rom sram fiq s h
  obtain ⟨hbios, hrom, hsram, hcfg, -⟩ := configure_eq_some h
  refine ⟨fun k hk => ?_, fun k hk => ?_, fun k hk => ?_, fun a r l ha h1 h2 h3 => ?_⟩
  · exact configure_getElem? h (transform_biosByte (hbios ▸ hk)) hk
  · exact configure_getElem? h (transform_romByte (by rwa [hcfg]) (by rwa [hcfg])) hk
  · exact configure_getElem? h (transform_sramByte (by rwa [hcfg]) (by rwa [hcfg])) hk
  · rw [configure_read8 h ha, imageOf_eq_nil h1 h2 h3]; rfl

end Sys2Proof.Machine

end MemoryMap

/-! # The shifter, the adder and the conditions (40_shifter_alu_cond.md R201 to R230) -/

section ShifterAdderConditions

namespace Sys2Proof.Machine

/-! ## The shifter -/

/-- A shift by 1 to 31 and the last bit shifted out: what the immediate and the register forms have in common. -/
def shiftBy (ty : ShiftType) (v : Word) (k : Nat) : Word × Bool :=
  match ty with
  | .lsl => (v <<< k, v.getLsbD (32 - k))
  | .lsr => (v >>> k, v.getLsbD (k - 1))
  | .asr => (v.sshiftRight k, v.getLsbD (k - 1))
  | .ror => (ror v k, v.getLsbD (k - 1))

section ImmediateAmount

variable {v : Word} {cin : Bool}

theorem shiftImm_of_ne_zero {ty : ShiftType} {n : BitVec 5} (hn : n ≠ 0) : shiftImm ty v n cin = shiftBy ty v n.toNat := by
  have hk : n.toNat ≠ 0 := fun h => hn (BitVec.eq_of_toNat_eq h)
  cases ty <;> exact if_neg hk

theorem shiftImm_lsl_zero : shiftImm .lsl v 0 cin = (v, cin) := rfl

theorem shiftImm_lsr_zero : shiftImm .lsr v 0 cin = (0, v.getLsbD 31) := rfl

theorem shiftImm_asr_zero : shiftImm .asr v 0 cin = (if v.getLsbD 31 then 0xFFFFFFFF else 0, v.getLsbD 31) := rfl

theorem shiftImm_ror_zero : shiftImm .ror v 0 cin = ((v >>> 1) ||| (if cin then 0x80000000 else 0), v.getLsbD 0) := rfl

/-- RRX moves every bit down one place and the carry into bit 31 (R207). -/
theorem shiftImm_ror_zero_getLsbD {j : Nat} (hj : j < 32) :
    (shiftImm .ror v 0 cin).1.getLsbD j = if j = 31 then cin else v.getLsbD (j + 1) := by
  have hcarry : (if cin then 0x80000000 else 0 : Word) = (BitVec.ofBool cin).setWidth 32 <<< 31 := by cases cin <;> rfl
  rw [shiftImm_ror_zero, hcarry, BitVec.getLsbD_or, BitVec.getLsbD_ushiftRight, BitVec.getLsbD_shiftLeft, Nat.add_comm 1 j]
  by_cases h31 : j = 31
  · simp [h31]
  · have hlow : j < 31 := by omega
    simp [h31, hlow]

end ImmediateAmount

section Bits

variable (v : Word) {k j : Nat}

theorem shiftBy_lsl_getLsbD (hj : j < 32) : (shiftBy .lsl v k).1.getLsbD j = if j < k then false else v.getLsbD (j - k) := by
  rw [shiftBy, BitVec.getLsbD_shiftLeft]
  by_cases hjk : j < k
  · simp [hjk]
  · simp [hj, hjk, -BitVec.getLsbD_eq_getElem]

theorem shiftBy_lsr_toNat : (shiftBy .lsr v k).1.toNat = v.toNat / 2 ^ k := by
  simp [shiftBy, Nat.shiftRight_eq_div_pow]

theorem shiftBy_asr_toInt : (shiftBy .asr v k).1.toInt = v.toInt / 2 ^ k := by
  simp [shiftBy, Int.shiftRight_eq_div_pow]

theorem shiftBy_ror_getLsbD (hj : j < 32) : (shiftBy .ror v k).1.getLsbD j = v.getLsbD ((j + k) % 32) :=
  ror_getLsbD v k j hj

end Bits

/-- Settles O13: a non-zero amount is the common shift, each type of which is read off its bits or its quotient; RRX is the amount 0 of ROR. -/
theorem shiftByImmediate : Obligations.ShiftByImmediate := by
  unfold Obligations.ShiftByImmediate
  intro v n cin
  constructor
  · rintro rfl
    exact ⟨shiftImm_lsl_zero, shiftImm_lsr_zero, shiftImm_asr_zero, rfl, fun _ hj => shiftImm_ror_zero_getLsbD hj⟩
  · intro hn
    simp only [shiftImm_of_ne_zero hn]
    exact ⟨⟨rfl, fun _ hj => shiftBy_lsl_getLsbD v hj⟩, ⟨rfl, shiftBy_lsr_toNat v⟩, ⟨rfl, shiftBy_asr_toInt v⟩,
      rfl, fun _ hj => shiftBy_ror_getLsbD v hj⟩

section RegisterAmount

variable {v : Word} {a : Byte} {cin : Bool}

theorem shiftReg_zero {ty : ShiftType} : shiftReg ty v 0 cin = (v, cin) := rfl

theorem shiftReg_of_lt {ty : ShiftType} (h0 : 0 < a.toNat) (h : a.toNat < 32) : shiftReg ty v a cin = shiftBy ty v a.toNat := by
  have hk : a.toNat ≠ 0 := by omega
  cases ty with
  | lsl | lsr | asr => rw [shiftReg, if_neg hk]; exact if_pos h
  | ror => simp only [shiftReg, if_neg hk, Nat.mod_eq_of_lt h, shiftBy]

theorem shiftReg_lsl_32 (h : a.toNat = 32) : shiftReg .lsl v a cin = (0, v.getLsbD 0) := by simp [shiftReg, h]

theorem shiftReg_lsr_32 (h : a.toNat = 32) : shiftReg .lsr v a cin = (0, v.getLsbD 31) := by simp [shiftReg, h]

theorem shiftReg_lsl_of_gt (h : 32 < a.toNat) : shiftReg .lsl v a cin = (0, false) := by
  rw [shiftReg, if_neg (by omega)]
  exact (if_neg (by omega)).trans (if_neg (by omega))

theorem shiftReg_lsr_of_gt (h : 32 < a.toNat) : shiftReg .lsr v a cin = (0, false) := by
  rw [shiftReg, if_neg (by omega)]
  exact (if_neg (by omega)).trans (if_neg (by omega))

theorem shiftReg_asr_of_ge (h : 32 ≤ a.toNat) :
    shiftReg .asr v a cin = (if v.getLsbD 31 then 0xFFFFFFFF else 0, v.getLsbD 31) := by
  rw [shiftReg, if_neg (by omega)]
  exact if_neg (by omega)

theorem shiftReg_ror_of_multiple (h0 : a.toNat ≠ 0) (h : a.toNat % 32 = 0) : shiftReg .ror v a cin = (v, v.getLsbD 31) := by
  rw [shiftReg, if_neg h0]
  exact if_pos h

theorem shiftReg_ror_of_mod (h : a.toNat % 32 ≠ 0) : shiftReg .ror v a cin = shiftBy .ror v (a.toNat % 32) := by
  have h0 : a.toNat ≠ 0 := fun h0 => h (by rw [h0])
  rw [shiftReg, if_neg h0]
  exact if_neg h

end RegisterAmount

/-- The common shift is the immediate form with the amount as its 5-bit field. -/
theorem shiftImm_ofNat {ty : ShiftType} {v : Word} {cin : Bool} {k : Nat} (h0 : k ≠ 0) (h : k < 32) :
    shiftImm ty v (BitVec.ofNat 5 k) cin = shiftBy ty v k := by
  have hk : (BitVec.ofNat 5 k).toNat = k := by rw [BitVec.toNat_ofNat, Nat.mod_eq_of_lt h]
  have hne : BitVec.ofNat 5 k ≠ 0 := fun hz => h0 (by rw [← hk, hz]; rfl)
  rw [shiftImm_of_ne_zero hne, hk]

/-- Settles O14: from 1 to 31, and for ROR from the amount modulo 32, both forms are the common shift; the rest is the register form's own. -/
theorem shiftByRegister : Obligations.ShiftByRegister := by
  unfold Obligations.ShiftByRegister
  intro v a cin
  refine ⟨fun h ty => ?_, fun h0 h ty => ?_, fun h => ⟨shiftReg_lsl_32 h, shiftReg_lsr_32 h⟩,
    fun h => ⟨shiftReg_lsl_of_gt h, shiftReg_lsr_of_gt h⟩, shiftReg_asr_of_ge,
    fun h => shiftReg_ror_of_multiple (by omega), fun _ h => ?_⟩
  · rw [h, shiftReg_zero]
  · rw [shiftReg_of_lt h0 h, shiftImm_ofNat (by omega) h]
  · rw [shiftReg_ror_of_mod h, shiftImm_ofNat h (Nat.mod_lt _ (by decide))]

/-- Settles O15: the model's rotation is the library's, and bit 31 is the sign. -/
theorem rotatedImmediate : Obligations.RotatedImmediate := by
  unfold Obligations.RotatedImmediate
  intro o cin
  constructor
  · exact ror_rotateRight _ _
  · rw [← negOf_toInt]; rfl

/-! ## The adder -/

/-- The words with bit 31 set are the upper half. -/
theorem getLsbD_31_toNat (x : Word) : x.getLsbD 31 = decide (2147483648 ≤ x.toNat) := by
  rw [← BitVec.msb_eq_getLsbD_last, BitVec.msb_eq_decide]

/-- Overflow by the signs (R215): it takes operands of one sign, and the result then has the other. -/
theorem addWithCarry_v_iff_signs (a b : Word) (c : Bool) : (addWithCarry a b c).v = true ↔
    a.getLsbD 31 = b.getLsbD 31 ∧ (addWithCarry a b c).result.getLsbD 31 ≠ a.getLsbD 31 := by
  have ha := a.isLt
  have hb := b.isLt
  have hc := c.toNat_le
  have hr : (addWithCarry a b c).result.toNat = (a.toNat + b.toNat + c.toNat) % 2 ^ 32 := BitVec.toNat_ofNat _ _
  rw [addWithCarry_v, decide_eq_true_iff, BitVec.toInt_eq_toNat_cond, BitVec.toInt_eq_toNat_cond]
  simp only [getLsbD_31_toNat, hr, ne_eq, decide_eq_decide]
  split_ifs <;> omega

/-- Settles O16: the sums are exact and only then narrowed; a subtraction is the addition of the complement. -/
theorem adder : Obligations.Adder := by
  unfold Obligations.Adder
  intro a b cin
  refine ⟨addWithCarry_result a b cin, ?_, addWithCarry_v_iff_signs a b cin, ?_, ?_, addWithCarry_not_v a b cin⟩
  · rw [addWithCarry_c, decide_eq_true_iff]
  · rw [addWithCarry_not_result]; cases cin <;> rfl
  · rw [addWithCarry_not_c, decide_eq_true_iff]; cases cin <;> rfl

/-! ## The conditions -/

/-- Settles O17: a condition on one flag is that flag or its complement, and one on two or three flags is read off its Boolean formula. -/
theorem conditions : Obligations.Conditions := by
  unfold Obligations.Conditions
  intro n z c v
  refine ⟨rfl, rfl, rfl, rfl, rfl, rfl, rfl, rfl, ?hi, ?ls, ?ge, ?lt, ?gt, ?le, rfl, rfl⟩
  case hi => rw [conditionHolds, Bool.and_eq_true, Bool.not_eq_true']
  case ls => rw [conditionHolds, Bool.or_eq_true, Bool.not_eq_true']
  case ge => rw [conditionHolds, beq_iff_eq]
  case lt => rw [conditionHolds, bne_iff_ne]
  case gt => rw [conditionHolds, Bool.and_eq_true, Bool.not_eq_true', beq_iff_eq]
  case le => rw [conditionHolds, Bool.or_eq_true, bne_iff_ne]

end Sys2Proof.Machine

end ShifterAdderConditions

/-! # ARM data processing: the result, the flags and the frame (41_arm_data_processing.md R250 to R275) -/

section DataProcessing

open Sys2Proof.Machine Sys2Proof.Claims

namespace Sys2Proof.Machine

/-! ## The mode and the T bit are none of the four flags (10_state.md R40) -/

@[simp] theorem State.aluFlags_mode (s : State) (o : Alu) : (s.aluFlags o).mode = s.mode := by
  rw [State.mode, State.aluFlags_cpsr, modeField_withFlags, State.mode]

@[simp] theorem State.aluFlags_thumb (s : State) (o : Alu) : (s.aluFlags o).thumb = s.thumb := by
  rw [State.thumb, State.aluFlags_cpsr, withFlags_getLsbD]; rfl

end Sys2Proof.Machine

namespace Sys2Proof.Claims

/-! ## The frame of each named operation: what it adds to what has been done since `s` -/

section Frame

variable {s t : State} {w : List (Phys × Word)} {cpsr : Word} {spsr : Mode → Option Word} {n : Nat}

theorem RegistersAre.set (h : RegistersAre s t w) (p : Phys) (v : Word) {u : State} (hu : u.regs = t.regs.set p v) :
    RegistersAre s u ((p, v) :: w) := by
  intro q
  rw [hu, Regs.get_set, valueIn, h q]

theorem Took.internal (h : Took s t n) (k : Nat) : Took s (t.internal k) (n + k) := by
  obtain ⟨hcycles, hsched⟩ := h
  constructor
  · rw [State.internal_cycles, hcycles, BitVec.ofNat_add, BitVec.add_assoc]
  · rw [State.internal_sched, hsched, BitVec.ofNat_add, BitVec.add_assoc]

theorem RestKept.costOf (h : RestKept s t) (k : Kind) (q : Seq) (wd : Width) (a : Word) : t.costOf k q wd a = s.costOf k q wd a := by
  obtain ⟨hcode, hdata, -⟩ := h
  exact State.costOf_congr hcode hdata k q wd a

/-- A write of register 15 is aligned by the T bit (10_state.md R38). -/
theorem dest_15 (s : State) (v : Word) : dest s 15 v = (.r15, alignPc s.thumb v) := by
  rw [dest, if_pos rfl, alignPc]
  cases s.thumb <;> rfl

theorem dest_congr (hmode : t.mode = s.mode) (hthumb : t.thumb = s.thumb) (i : Reg) (v : Word) : dest t i v = dest s i v := by
  rw [dest, dest, hmode, hthumb]

namespace Core

theorem refl (s : State) : Core s s [] s.cpsr s.spsr.get 0 :=
  ⟨fun _ => rfl, rfl, fun _ => rfl, ⟨(BitVec.add_zero _).symm, (BitVec.add_zero _).symm⟩, rfl, rfl, rfl, rfl, rfl, rfl⟩

theorem cpsr_eq (h : Core s t w cpsr spsr n) : t.cpsr = cpsr := h.2.1

theorem rest (h : Core s t w cpsr spsr n) : RestKept s t := h.2.2.2.2

theorem memoryKept (h : Core s t w cpsr spsr n) (hmem : t.mem = s.mem) (hio : t.ioEvents = s.ioEvents) : MemoryKept s t := by
  obtain ⟨-, -, -, hcfg, -⟩ := h.rest
  exact ⟨State.read8_congr hcfg hmem, hmem, hio⟩

theorem internal (h : Core s t w cpsr spsr n) (k : Nat) : Core s (t.internal k) w cpsr spsr (n + k) := by
  obtain ⟨hregs, hcpsr, hspsr, htook, hrest⟩ := h
  exact ⟨hregs, hcpsr, hspsr, htook.internal k, hrest⟩

/-- No instruction changes the cost tables, so an access costs what it cost in `s`. -/
theorem charge (h : Core s t w cpsr spsr n) (k : Kind) (q : Seq) (wd : Width) (a : Word) :
    Core s (t.charge k q wd a) w cpsr spsr (n + s.costOf k q wd a) := by
  rw [← h.rest.costOf]
  exact h.internal _

theorem refill (h : Core s t w cpsr spsr n) : Core s t.refill w cpsr spsr (n + refillAt s t.thumb t.pc) := by
  have h2 := (h.charge .code .n t.fw t.pc).charge .code .s t.fw t.pc
  rw [Nat.add_assoc] at h2
  exact h2

theorem setPc (h : Core s t w cpsr spsr n) (v : Word) : Core s (t.setPc v) ((.r15, v) :: w) cpsr spsr n := by
  obtain ⟨hregs, hrest⟩ := h
  exact ⟨hregs.set .r15 v rfl, hrest⟩

theorem advance (h : Core s t w cpsr spsr n) : Core s t.advance ((.r15, t.pc + t.ilen) :: w) cpsr spsr n := h.setPc _

/-- The first thing every instruction but a store does (70_reset_and_hazards.md R590). -/
theorem fetched (s : State) : Core s s.fetched [(.r15, s.pc + s.ilen)] s.cpsr s.spsr.get (own s) := by
  have h := ((refl s).charge .code .s s.fw s.pc).advance
  rw [Nat.zero_add] at h
  exact h

theorem fetched_arm (h : s.thumb = false) : Core s s.fetched [(.r15, s.pc + 4)] s.cpsr s.spsr.get (own s) := by
  have hlen : s.ilen = 4 := by rw [State.ilen, h]; rfl
  exact hlen ▸ fetched s

theorem writeFlags (h : Core s t w cpsr spsr n) (fn fz fc fv : Bool) :
    Core s (t.writeFlags fn fz fc fv) w (flagged cpsr fn fz fc fv) spsr n := by
  obtain ⟨hregs, hcpsr, hrest⟩ := h
  exact ⟨hregs, by rw [State.writeFlags_cpsr, hcpsr, withFlags_append, flagged], hrest⟩

theorem aluFlags (h : Core s t w cpsr spsr n) (o : Alu) : Core s (t.aluFlags o) w (flagsOf cpsr o.result o.c o.v) spsr n := by
  rw [flagsOf, ← negOf_toInt]
  exact h.writeFlags _ _ _ _

/-- A register goes through the bank map of the mode it is written in; register 15 is a branch (10_state.md R32, R38). -/
theorem setReg (h : Core s t w cpsr spsr n) (i : Reg) (v : Word) : Core s (t.setReg i v) (dest t i v :: w) cpsr spsr n := by
  by_cases h15 : i = 15
  · subst h15
    exact dest_15 t v ▸ h.setPc _
  · obtain ⟨hregs, hrest⟩ := h
    rw [State.setReg_eq t v h15, dest, if_neg h15]
    exact ⟨hregs.set _ v rfl, hrest⟩

end Core

end Frame

end Sys2Proof.Claims

namespace Sys2Proof.Machine

/-! ## The operations on words (R217, R218, R253, R254) -/

section Operations

variable (op : DpOp) (a b : Word) (shift carry old : Bool)

theorem DpOp.compute_result : (op.compute a b shift carry old).result = dpValue op a b carry := by
  cases op with
  | and | eor | tst | teq | orr | mov | bic | mvn => rfl
  | add | cmn => exact (addWithCarry_result a b false).trans (BitVec.add_zero _)
  | adc => exact addWithCarry_result a b carry
  | sub | cmp => exact (addWithCarry_not_result a b true).trans (BitVec.sub_zero _)
  | rsb => exact (addWithCarry_not_result b a true).trans (BitVec.sub_zero _)
  | sbc => refine (addWithCarry_not_result a b carry).trans ?_; cases carry <;> rfl
  | rsc => refine (addWithCarry_not_result b a carry).trans ?_; cases carry <;> rfl

theorem DpOp.compute_c : (op.compute a b shift carry old).c = dpCarry op a b shift carry := by
  cases op with
  | and | eor | tst | teq | orr | mov | bic | mvn => rfl
  | add | cmn => exact addWithCarry_c a b false
  | adc => exact addWithCarry_c a b carry
  | sub | cmp => exact addWithCarry_not_c a b true
  | sbc => exact addWithCarry_not_c a b carry
  | rsb => exact addWithCarry_not_c b a true
  | rsc => exact addWithCarry_not_c b a carry

theorem DpOp.compute_v : (op.compute a b shift carry old).v = dpOverflow op a b carry old := by
  cases op with
  | and | eor | tst | teq | orr | mov | bic | mvn => rfl
  | add | cmn => exact (addWithCarry_v a b false).trans (congrArg overflows (Int.add_zero _))
  | adc => exact addWithCarry_v a b carry
  | sub | cmp => exact (addWithCarry_not_v a b true).trans (congrArg overflows (Int.sub_zero _))
  | sbc => exact addWithCarry_not_v a b carry
  | rsb => exact (addWithCarry_not_v b a true).trans (congrArg overflows (Int.sub_zero _))
  | rsc => exact addWithCarry_not_v b a carry

/-- The flags of an operation are those of its exact integers. -/
theorem flagsOf_compute (s : State) (x : Word × Bool) :
    flagsOf s.cpsr (s.compute op a x).result (s.compute op a x).c (s.compute op a x).v = dpFlags s op a x := by
  rw [State.compute, DpOp.compute_result, DpOp.compute_c, DpOp.compute_v, dpFlags]

end Operations

/-! ## What each form runs -/

section Forms

variable {op : DpOp} {c : Cond} {x : Operand2} {s : State} (f : Bool) (rn rd : Reg)

/-- An operation that writes a register, with operand 2 an immediate or shifted by one (R250, R252). -/
theorem exec_dp (hop : compares op = false) (hx : x.byRegister = false) (hpass : s.passes c = true) :
    exec (dp op c f rn rd x) s = s.dpWrite s.fetched f rd (s.compute op (x.first s rn) (x.value s)) := by
  cases x with
  | imm | immShift =>
    cases op with
    | tst | teq | cmp | cmn => cases hop
    | and | eor | sub | rsb | add | adc | sbc | rsc | orr | mov | bic | mvn => exact State.gate_passes hpass _
  | regShift => cases hx

/-- The register-shift form: its UNPREDICTABLE case and its internal cycle (R251, R252, R591). -/
theorem exec_dp_byRegister (hop : compares op = false) (hx : x.byRegister = true) (hpass : s.passes c = true) :
    exec (dp op c f rn rd x) s = s.guarded [(decide (rd = 15), .dpRegshiftRd15)]
      (s.dpWrite (s.fetched.internal 1) f rd (s.compute op (x.first s rn) (x.value s))) := by
  cases x with
  | imm | immShift => cases hx
  | regShift =>
    cases op with
    | tst | teq | cmp | cmn => cases hop
    | and | eor | sub | rsb | add | adc | sbc | rsc | orr | mov | bic | mvn => exact State.gate_passes hpass _

/-- A compare, in any form, is the flags of its operation after the charges (R255, R591). -/
theorem exec_dp_compare (hop : compares op = true) (hpass : s.passes c = true) :
    exec (dp op c f rn rd x) s =
      .next ((if x.byRegister then s.fetched.internal 1 else s.fetched).aluFlags (s.compute op (x.first s rn) (x.value s))) := by
  cases op with
  | and | eor | sub | rsb | add | adc | sbc | rsc | orr | mov | bic | mvn => cases hop
  | tst | teq | cmp | cmn => cases x <;> exact State.gate_passes hpass _

end Forms

/-- Where an instruction is no case of `cs`, or the policy gives the case its effect, nothing stops it (00_scope.md R10). -/
theorem State.guarded_of_permits {s : State} {ok : Prop} (h : Permits s ok) {cs : List (Bool × Unpred)} (hcs : ok → firstCase cs = none)
    (k : Result) : s.guarded cs k = k :=
  h.elim (fun harm => State.guarded_arm7tdmi harm cs k) (fun hok => State.guarded_none (hcs hok) k)

/-! ## The write of a result -/

section Write

variable {s t : State} {f : Bool} {rd : Reg} {o : Alu}

/-- The state a result leaves, but for the refill after a branch. -/
def State.resultWritten (t : State) (f : Bool) (rd : Reg) (o : Alu) : State := (if f then t.aluFlags o else t).setReg rd o.result

/-- With S = 0 a write of register 15 is a branch, so it goes as any other but for the refill (R256). -/
theorem State.dpWrite_of_not_return (h : rd = 15 → f = false) :
    s.dpWrite t f rd o = .next (if rd = 15 then (t.resultWritten f rd o).refill else t.resultWritten f rd o) := by
  by_cases h15 : rd = 15
  · cases h h15
    subst h15
    rfl
  · simp only [State.dpWrite, if_neg h15, State.resultWritten]

theorem resultWritten_core {w : List (Phys × Word)} {spsr : Mode → Option Word} {n : Nat} (h : Core s t w s.cpsr spsr n) :
    Core s (t.resultWritten f rd o) (dest s rd o.result :: w) (if f then flagsOf s.cpsr o.result o.c o.v else s.cpsr) spsr n := by
  have hmode := State.mode_congr h.cpsr_eq
  have hthumb := State.thumb_congr h.cpsr_eq
  cases f with
  | false =>
    rw [← dest_congr hmode hthumb]
    exact h.setReg rd o.result
  | true =>
    rw [← dest_congr ((t.aluFlags_mode o).trans hmode) ((t.aluFlags_thumb o).trans hthumb)]
    exact (h.aluFlags o).setReg rd o.result

@[simp] theorem State.resultWritten_mem (t : State) (f : Bool) (rd : Reg) (o : Alu) : (t.resultWritten f rd o).mem = t.mem := by
  cases f <;> simp [State.resultWritten]

@[simp] theorem State.resultWritten_ioEvents (t : State) (f : Bool) (rd : Reg) (o : Alu) : (t.resultWritten f rd o).ioEvents = t.ioEvents := by
  cases f <;> simp [State.resultWritten]

/-- An instruction that has done its charges and then writes a result. -/
theorem runs_dpWrite {i : Instr} {w : List (Phys × Word)} {n : Nat} (hi : exec i s = s.dpWrite t f rd o) (hr : rd = 15 → f = false)
    (harm : s.thumb = false) (ht : Core s t w s.cpsr s.spsr.get n) (hmem : t.mem = s.mem) (hio : t.ioEvents = s.ioEvents) :
    Runs i s (dest s rd o.result :: w) (if f then flagsOf s.cpsr o.result o.c o.v else s.cpsr)
      (n + (if rd = 15 then refillAt s false (o.result &&& 0xFFFFFFFC) else 0)) := by
  have hcore := resultWritten_core (f := f) (rd := rd) (o := o) ht
  have hkept := hcore.memoryKept ((t.resultWritten_mem f rd o).trans hmem) ((t.resultWritten_ioEvents f rd o).trans hio)
  refine ⟨_, hi.trans (State.dpWrite_of_not_return hr), ?_⟩
  by_cases h15 : rd = 15
  · cases hr h15
    subst h15
    have hthumb : t.thumb = false := (State.thumb_congr ht.cpsr_eq).trans harm
    have hrefill : refillAt s false (o.result &&& 0xFFFFFFFC) =
        refillAt s (t.resultWritten false 15 o).thumb (t.resultWritten false 15 o).pc := by
      change _ = refillAt s t.thumb (alignPc t.thumb o.result)
      rw [hthumb]; rfl
    rw [if_pos rfl, if_pos rfl, hrefill]
    exact ⟨hcore.refill, hkept⟩
  · rw [if_neg h15, if_neg h15]
    exact ⟨hcore, hkept⟩

end Write

/-- Settles O20: the fetch and then the write of a result, which is the operation on words. -/
theorem dataProcessing : Obligations.DataProcessing := by
  unfold Obligations.DataProcessing
  rintro s op c f rn rd x ⟨harm, hpass⟩ hop hx hr
  have h := runs_dpWrite (exec_dp f rn rd hop hx hpass) hr harm (Core.fetched_arm harm) rfl rfl
  rw [flagsOf_compute, State.compute, DpOp.compute_result] at h
  exact h

/-- Settles O21: as the other forms after one internal cycle more; nothing stops the instruction where its case is permitted. -/
theorem dataProcessingByRegister : Obligations.DataProcessingByRegister := by
  unfold Obligations.DataProcessingByRegister
  rintro s op c f rn rd x ⟨harm, hpass⟩ hop hx hr hpermits
  have hexec := (exec_dp_byRegister f rn rd hop hx hpass).trans
    (State.guarded_of_permits hpermits (fun h15 => by simp [firstCase, h15]) _)
  have h := runs_dpWrite hexec hr harm ((Core.fetched_arm harm).internal 1) rfl rfl
  rw [flagsOf_compute, State.compute, DpOp.compute_result] at h
  exact h

/-- Settles O22: the charges and then the flags, in every form; the compared operation's flags are those of its exact integers. -/
theorem ArmDataProcessing.compares : Obligations.Compares := by
  unfold Obligations.Compares
  rintro s op c f rn rd x ⟨harm, hpass⟩ hop
  refine ⟨_, exec_dp_compare f rn rd hop hpass, ?_⟩
  rw [← flagsOf_compute, Operand2.cycles]
  cases x.byRegister with
  | false =>
    have h := (Core.fetched_arm harm).aluFlags (s.compute op (x.first s rn) (x.value s))
    exact ⟨h, h.memoryKept rfl rfl⟩
  | true =>
    have h := ((Core.fetched_arm harm).internal 1).aluFlags (s.compute op (x.first s rn) (x.value s))
    exact ⟨h, h.memoryKept rfl rfl⟩

end Sys2Proof.Machine

end DataProcessing

/-! # ARM branches, SWI and the undefined encodings (44_arm_branch_system.md R370 to R390, 47_thumb_branch.md R501) -/

section BranchSystem

open Sys2Proof.Machine Sys2Proof.Claims

namespace Sys2Proof.Machine

/-! ## Instruction lengths, branch offsets and the policy for undefined encodings -/

theorem State.ilen_arm {s : State} (h : s.thumb = false) : s.ilen = 4 := by simp [State.ilen, h]

theorem State.ilen_thumb {s : State} (h : s.thumb = true) : s.ilen = 2 := by simp [State.ilen, h]

/-- Extending the sign of an offset commutes with the scaling of the offset by a power of two. -/
theorem signExtend_append_zero {w : Nat} (n k : Nat) (x : BitVec w) : (x ++ 0#k).signExtend n = x.signExtend n <<< k := by
  apply BitVec.eq_of_getLsbD_eq
  intro j hj
  have hmsb : (x ++ 0#k).msb = x.msb := by
    rw [BitVec.msb_append]
    cases w with
    | zero => simp [BitVec.msb]
    | succ w => simp
  rw [BitVec.getLsbD_signExtend, BitVec.getLsbD_append, BitVec.getLsbD_shiftLeft, BitVec.getLsbD_signExtend, hmsb]
  by_cases hk : j < k
  · simp [hk, show j < w + k by omega]
  · have hlt : j < w + k ↔ j - k < w := by omega
    simp [hj, hk, hlt, show j - k < n by omega]

theorem branchOffset24_eq (off : BitVec 24) : branchOffset24 off = (off ++ 0#2).signExtend 32 :=
  (signExtend_append_zero 32 2 off).symm

theorem State.undefinedEncoding_of_nop {s : State} (h : s.cfg.undef = .nop) : s.undefinedEncoding = .next s.fetched := by
  simp [State.undefinedEncoding, h]

theorem State.undefinedEncoding_of_trap {s : State} (h : s.cfg.undef = .trap) : s.undefinedEncoding = .next (s.trap .undefined) := by
  simp [State.undefinedEncoding, h]

/-- Every exception is entered in a mode that has an SPSR (60_exceptions.md R520), so the entry saves CPSR there. -/
theorem Spsrs.get_set_exc (p : Spsrs) (e : Exc) (k : Mode) (v : Word) :
    (p.set e.mode v).get k = if k = e.mode then some v else p.get k := by
  rw [Spsrs.get_set]
  cases e <;> rfl

end Sys2Proof.Machine

namespace Sys2Proof.Claims

/-! ## A register listed twice holds what its first entry says -/

theorem valueIn_append (w v : List (Phys × Word)) (old : Word) (q : Phys) :
    valueIn (w ++ v) old q = valueIn w (valueIn v old q) q := by
  induction w with
  | nil => rfl
  | cons e w ih => simp only [List.cons_append, valueIn, ih]

theorem valueIn_of_mem {w : List (Phys × Word)} {q : Phys} (h : q ∈ w.map Prod.fst) (old old' : Word) :
    valueIn w old q = valueIn w old' q := by
  induction w with
  | nil => cases h
  | cons e w ih =>
    by_cases hq : q = e.1
    · simp only [valueIn, if_pos hq]
    · simp only [valueIn, if_neg hq]
      exact ih ((List.mem_cons.1 h).resolve_left hq)

section Frame

variable {s t : State} {w : List (Phys × Word)} {cpsr : Word} {spsr : Mode → Option Word} {n : Nat}

theorem RegistersAre.dropLast {p : Phys} {x : Word} (h : RegistersAre s t (w ++ [(p, x)])) (hp : p ∈ w.map Prod.fst) :
    RegistersAre s t w := by
  intro q
  rw [h q, valueIn_append]
  by_cases hq : q = p
  · exact valueIn_of_mem (hq ▸ hp) _ _
  · simp only [valueIn, if_neg hq]

namespace Core

theorem dropLast {p : Phys} {x : Word} (h : Core s t (w ++ [(p, x)]) cpsr spsr n) (hp : p ∈ w.map Prod.fst) :
    Core s t w cpsr spsr n := by
  obtain ⟨hregs, hrest⟩ := h
  exact ⟨hregs.dropLast hp, hrest⟩

/-! ## The branches: pc_next replaces the following instruction's address (R370, R371) -/

theorem jump (s : State) (target : Word) :
    Core s (s.jump target) [(.r15, target)] s.cpsr s.spsr.get (own s + refillAt s s.thumb target) :=
  dropLast (w := [(.r15, target)]) ((fetched s).setPc target).refill (by simp)

/-- A branch that writes a link to register 14 of the current mode. -/
theorem jumpWithLink (s : State) (link target : Word) :
    Core s ((s.fetched.setReg 14 link).setPc target).refill [(.r15, target), (phys s.mode 14, link)] s.cpsr s.spsr.get
      (own s + refillAt s s.thumb target) := by
  have h := (((fetched s).setReg 14 link).setPc target).refill
  exact dropLast (w := [(.r15, target), (phys s.mode 14, link)]) h (by simp)

/-! ## Exception entry (60_exceptions.md R530) -/

theorem enter (h : Core s t w cpsr spsr n) (e : Exc) (ret : Word) :
    Core s (t.enter e ret) ((.r15, e.vector) :: (phys e.mode 14, ret) :: w) (e.cpsr cpsr)
      (fun k => if k = e.mode then some cpsr else spsr k) n := by
  obtain ⟨hregs, hcpsr, hspsr, hrest⟩ := h
  refine ⟨?_, by rw [State.enter_cpsr, hcpsr], fun k => ?_, hrest⟩
  · exact (hregs.set (u := { t with regs := t.regs.set (phys e.mode 14) ret }) _ ret rfl).set .r15 e.vector rfl
  · rw [State.enter_spsr, Spsrs.get_set_exc, hcpsr, hspsr]

end Core

/-- The frame of an entry, with every bit of the new CPSR read off (R530). -/
theorem Enters.of_core {e : Exc} {link : Word} (h : Core s t [(.r15, e.vector), (phys e.mode 14, link)] (e.cpsr s.cpsr)
    (fun k => if k = e.mode then some s.cpsr else s.spsr.get k) n) (hkept : MemoryKept s t) :
    Enters s t e.mode e.setsF e.vector link n := by
  obtain ⟨hregs, hcpsr, hspsr, htook, -⟩ := h
  refine ⟨hregs, fun j _ => ?_, hspsr, hkept, htook⟩
  rw [hcpsr, Exc.cpsr_getLsbD]
  by_cases h6 : j = 6
  · subst h6; rfl
  · simp only [if_neg h6]

end Frame

/-- An exception raised by an instruction: its fetch, the entry with the following instruction's address as the link, the refill in ARM state
(70_reset_and_hazards.md R597). -/
theorem trap_enters (s : State) (e : Exc) :
    Enters s (s.trap e) e.mode e.setsF e.vector (s.pc + s.ilen) (own s + refillAt s false e.vector) ∧ RestKept s (s.trap e) := by
  have h := ((Core.fetched s).enter e (s.pc + s.ilen)).refill
  have hthumb : (s.fetched.enter e (s.pc + s.ilen)).thumb = false := Exc.cpsr_thumb e s.cpsr
  rw [hthumb] at h
  have hcore := Core.dropLast (w := [(.r15, e.vector), (phys e.mode 14, s.pc + s.ilen)]) h (by simp)
  exact ⟨.of_core hcore (h.memoryKept rfl rfl), h.rest⟩

end Sys2Proof.Claims

namespace Sys2Proof.Machine

/-! ## The undefined rows of both tables (R385, R390) -/

section Undefined

variable {s : State} {i : Instr}

theorem exec_armUndefined {c : Cond} (hi : i ∈ armUndefined c) (hpass : s.passes c = true) : exec i s = s.undefinedEncoding := by
  simp only [armUndefined, List.mem_cons, List.not_mem_nil, or_false] at hi
  rcases hi with rfl | rfl | rfl | rfl | rfl | rfl | rfl | rfl <;> exact State.gate_passes hpass _

theorem exec_thumbUndefined (hi : i ∈ thumbUndefined) : exec i s = s.undefinedEncoding := by
  simp only [thumbUndefined, List.mem_cons, List.not_mem_nil, or_false] at hi
  rcases hi with rfl | rfl | rfl <;> rfl

/-- What an undefined encoding does under each policy, in either state. -/
theorem undefined_policies (hi : exec i s = s.undefinedEncoding) :
    (s.cfg.undef = .nop → Runs i s [(.r15, s.pc + s.ilen)] s.cpsr (own s)) ∧
    (s.cfg.undef = .trap → ∃ t : State, exec i s = .next t ∧
      Enters s t .und false 0x00000004 (s.pc + s.ilen) (own s + refillAt s false 0x00000004) ∧ RestKept s t) := by
  refine ⟨fun hnop => ?_, fun htrap => ?_⟩
  · have h := Core.fetched s
    exact ⟨_, hi.trans (State.undefinedEncoding_of_nop hnop), h, h.memoryKept rfl rfl⟩
  · exact ⟨_, hi.trans (State.undefinedEncoding_of_trap htrap), trap_enters s .undefined⟩

end Undefined

/-! ## The three statements -/

/-- Settles O7: with either table SWI is the entry of SoftwareInterrupt, the link the address of the following instruction. -/
theorem softwareInterrupt : Obligations.SoftwareInterrupt := by
  unfold Obligations.SoftwareInterrupt
  refine ⟨fun s c comment ⟨harm, hpass⟩ => ?_, fun s comment hthumb => ?_⟩
  · exact ⟨_, State.gate_passes hpass _, State.ilen_arm harm ▸ trap_enters s .softwareInterrupt⟩
  · exact ⟨_, rfl, State.ilen_thumb hthumb ▸ trap_enters s .softwareInterrupt⟩

/-- Settles O8: every undefined row of either table is the one operation that the policy selects. -/
theorem undefinedEncodings : Obligations.UndefinedEncodings := by
  unfold Obligations.UndefinedEncodings
  refine ⟨fun s c i hi ⟨harm, hpass⟩ => ?_, fun s i hi hthumb => ?_⟩
  · exact State.ilen_arm harm ▸ undefined_policies (exec_armUndefined hi hpass)
  · exact State.ilen_thumb hthumb ▸ undefined_policies (exec_thumbUndefined hi)

/-- Settles O37: the charges, the link of BL and the branch, whose offset is the model's shifted one. -/
theorem branches : Obligations.Branches := by
  unfold Obligations.Branches
  rintro s c off ⟨harm, hpass⟩
  rw [← branchOffset24_eq, ← harm]
  have hb := Core.jump s (s.pc + 8 + branchOffset24 off)
  have hbl := Core.jumpWithLink s (s.pc + 4) (s.pc + 8 + branchOffset24 off)
  exact ⟨⟨_, State.gate_passes hpass _, hb, hb.memoryKept rfl rfl⟩, ⟨_, State.gate_passes hpass _, hbl, hbl.memoryKept rfl rfl⟩⟩

end Sys2Proof.Machine

end BranchSystem

/-! # The Thumb data processing of formats 1 to 5, 12 and 13 (45_thumb_alu.md R400 to R435) -/

section ThumbDataProcessing

open Sys2Proof.Machine Sys2Proof.Claims

namespace Sys2Proof.Claims

/-! ## Low registers and the fetch in Thumb state -/

/-- A low register is no branch target (30_encoding.md R155). -/
theorem dest_toReg (s : State) (r : LoReg) (v : Word) : dest s r.toReg v = low s r v := by
  have h15 : r.toReg ≠ 15 := by
    rw [Ne, Fin.ext_iff]
    exact Nat.ne_of_lt (Nat.lt_trans r.isLt (by decide))
  rw [dest, if_neg h15, low]

theorem Core.fetched_thumb {s : State} (h : s.thumb = true) : Core s s.fetched [(.r15, s.pc + 2)] s.cpsr s.spsr.get (own s) :=
  State.ilen_thumb h ▸ Core.fetched s

end Sys2Proof.Claims

namespace Sys2Proof.Machine

section Forms

variable {s t : State} {i : Instr} {rs rd : LoReg} {o : Alu} {n : Nat}

/-! ## The forms that write the flags (R400) -/

/-- After its charges an instruction writes a low register and the flags. -/
theorem lowWrites_of_core (hi : exec i s = .next ((t.aluFlags o).setLo rd o.result))
    (ht : Core s t [(.r15, s.pc + 2)] s.cpsr s.spsr.get (own s + n)) (hmem : t.mem = s.mem) (hio : t.ioEvents = s.ioEvents) :
    LowWrites i s rd o.result o.c o.v n := by
  have hcore := resultWritten_core (f := true) (rd := rd.toReg) (o := o) ht
  rw [dest_toReg] at hcore
  exact ⟨_, hi, hcore, hcore.memoryKept ((t.resultWritten_mem true rd.toReg o).trans hmem)
    ((t.resultWritten_ioEvents true rd.toReg o).trans hio)⟩

theorem lowWrites_thumbWrite (hthumb : s.thumb = true) (hi : exec i s = s.thumbWrite rd o) : LowWrites i s rd o.result o.c o.v 0 :=
  lowWrites_of_core hi (Core.fetched_thumb hthumb) rfl rfl

theorem lowWrites_shiftOut {x : Word × Bool} (hthumb : s.thumb = true) (hi : exec i s = s.thumbWrite rd (s.shiftOut x)) :
    LowWrites i s rd x.1 x.2 s.flagV 0 :=
  lowWrites_thumbWrite hthumb hi

/-- A shift by a register takes one internal cycle more (R414, 70_reset_and_hazards.md R598). -/
theorem lowWrites_thumbShift {ty : ShiftType} (hthumb : s.thumb = true) (hi : exec i s = s.thumbShift ty rs rd) :
    LowWrites i s rd (shiftReg ty (s.lo rd) (lowByte (s.lo rs)) s.flagC).1 (shiftReg ty (s.lo rd) (lowByte (s.lo rs)) s.flagC).2 s.flagV 1 :=
  lowWrites_of_core hi ((Core.fetched_thumb hthumb).internal 1) rfl rfl

theorem onlyFlags_thumbCompare (hthumb : s.thumb = true) (hi : exec i s = s.thumbCompare o) : OnlyFlags i s o.result o.c o.v := by
  have hcore := (Core.fetched_thumb hthumb).aluFlags o
  exact ⟨_, hi, hcore, hcore.memoryKept rfl rfl⟩

/-! ## The operations on words: with the C flag as the shifter carry a logical one keeps C -/

theorem lowWrites_op (hthumb : s.thumb = true) (op : DpOp) (a b : Word) (hi : exec i s = s.thumbWrite rd (s.compute op a (b, s.flagC))) :
    LowWrites i s rd (dpValue op a b s.flagC) (dpCarry op a b s.flagC s.flagC) (dpOverflow op a b s.flagC s.flagV) 0 := by
  have h := lowWrites_thumbWrite hthumb hi
  rw [State.compute, DpOp.compute_result, DpOp.compute_c, DpOp.compute_v] at h
  exact h

theorem onlyFlags_op (hthumb : s.thumb = true) (op : DpOp) (a b : Word) (hi : exec i s = s.thumbCompare (s.compute op a (b, s.flagC))) :
    OnlyFlags i s (dpValue op a b s.flagC) (dpCarry op a b s.flagC s.flagC) (dpOverflow op a b s.flagC s.flagV) := by
  have h := onlyFlags_thumbCompare hthumb hi
  rw [State.compute, DpOp.compute_result, DpOp.compute_c, DpOp.compute_v] at h
  exact h

/-! ## The forms that write no flags (R400, R429 to R435) -/

theorem runs_setReg {r : Reg} {v : Word} (hthumb : s.thumb = true) (hi : exec i s = .next (s.fetched.setReg r v)) :
    Runs i s [dest s r v, (.r15, s.pc + 2)] s.cpsr (own s) := by
  have hcore := (Core.fetched_thumb hthumb).setReg r v
  exact ⟨_, hi, hcore, hcore.memoryKept (State.setReg_mem ..) (State.setReg_ioEvents ..)⟩

theorem runs_setLo {v : Word} (hthumb : s.thumb = true) (hi : exec i s = .next (s.fetched.setLo rd v)) :
    Runs i s [low s rd v, (.r15, s.pc + 2)] s.cpsr (own s) :=
  dest_toReg s rd v ▸ runs_setReg hthumb hi

/-- A write of register 15 is a branch in Thumb state and refills there (R400, 70_reset_and_hazards.md R598). -/
theorem runs_hiWrite {d : Reg} {v : Word} (hthumb : s.thumb = true) (hi : exec i s = s.hiWrite d v) :
    Runs i s [dest s d v, (.r15, s.pc + 2)] s.cpsr (own s + (if d = 15 then refillAt s true (v &&& 0xFFFFFFFE) else 0)) := by
  by_cases h15 : d = 15
  · subst h15
    have hcore := ((Core.fetched_thumb hthumb).setReg 15 v).refill
    have hpc : (s.fetched.setReg 15 v).pc = v &&& 0xFFFFFFFE := by
      rw [State.setReg_15, State.branch_pc, State.fetched_thumb, hthumb]; rfl
    have ht : (s.fetched.setReg 15 v).thumb = true := hthumb
    rw [hpc, ht] at hcore
    exact ⟨_, hi, hcore, hcore.memoryKept rfl rfl⟩
  · rw [State.hiWrite, if_neg h15] at hi
    rw [if_neg h15]
    exact runs_setReg hthumb hi

theorem firstCase_lowLowCase {d m : Reg} (h : 8 ≤ d.val ∨ 8 ≤ m.val) : firstCase (lowLowCase d m) = none := by
  have hlow : ¬ (d.val < 8 ∧ m.val < 8) := by omega
  rw [lowLowCase, decide_eq_false hlow]; rfl

end Forms

/-- Widening commutes with the scaling of an offset by a power of two. -/
theorem setWidth_append_zero {w : Nat} (n k : Nat) (x : BitVec w) : (x ++ 0#k).setWidth n = x.setWidth n <<< k := by
  apply BitVec.eq_of_toNat_eq
  simp [BitVec.toNat_append, Nat.shiftLeft_eq]

theorem times4_eq {w : Nat} (off : BitVec w) : times4 off = (off ++ 0#2).setWidth 32 := (setWidth_append_zero 32 2 off).symm

/-! ## The four statements -/

/-- Settles O39: each instruction is one of the sixteen operations on the two operands, whose flags are those of its exact integers. -/
theorem thumbArithmetic : Obligations.ThumbArithmetic := by
  unfold Obligations.ThumbArithmetic
  intro s rn rs rd off3 off8 hthumb
  exact ⟨lowWrites_op hthumb .add (s.lo rs) (s.lo rn) rfl,
    lowWrites_op hthumb .sub (s.lo rs) (s.lo rn) rfl,
    lowWrites_op hthumb .add (s.lo rs) (off3.setWidth 32) rfl,
    lowWrites_op hthumb .sub (s.lo rs) (off3.setWidth 32) rfl,
    onlyFlags_op hthumb .cmp (s.lo rd) (off8.setWidth 32) rfl,
    lowWrites_op hthumb .add (s.lo rd) (off8.setWidth 32) rfl,
    lowWrites_op hthumb .sub (s.lo rd) (off8.setWidth 32) rfl,
    lowWrites_op hthumb .adc (s.lo rd) (s.lo rs) rfl,
    lowWrites_op hthumb .sbc (s.lo rd) (s.lo rs) rfl,
    lowWrites_op hthumb .sub 0 (s.lo rs) rfl,
    onlyFlags_op hthumb .cmp (s.lo rd) (s.lo rs) rfl,
    onlyFlags_op hthumb .cmn (s.lo rd) (s.lo rs) rfl⟩

/-- Settles O40: each instruction is a logical operation whose shifter carry is the C flag; MOV and MVN do not use their first operand. -/
theorem thumbLogical : Obligations.ThumbLogical := by
  unfold Obligations.ThumbLogical
  intro s rs rd off8 hthumb
  exact ⟨lowWrites_op hthumb .mov (s.lo rd) (off8.setWidth 32) rfl,
    lowWrites_op hthumb .and (s.lo rd) (s.lo rs) rfl,
    lowWrites_op hthumb .eor (s.lo rd) (s.lo rs) rfl,
    lowWrites_op hthumb .orr (s.lo rd) (s.lo rs) rfl,
    lowWrites_op hthumb .bic (s.lo rd) (s.lo rs) rfl,
    lowWrites_op hthumb .mvn (s.lo rd) (s.lo rs) rfl,
    onlyFlags_op hthumb .tst (s.lo rd) (s.lo rs) rfl⟩

/-- Settles O41: the three immediate shifts write the shifter's result after the fetch, the four register shifts after one internal cycle more. -/
theorem thumbShifts : Obligations.ThumbShifts := by
  unfold Obligations.ThumbShifts
  intro s rs rd off5 hthumb
  exact ⟨lowWrites_shiftOut hthumb rfl, lowWrites_shiftOut hthumb rfl, lowWrites_shiftOut hthumb rfl,
    lowWrites_thumbShift hthumb rfl, lowWrites_thumbShift hthumb rfl, lowWrites_thumbShift hthumb rfl, lowWrites_thumbShift hthumb rfl⟩

/-- Settles O42: where two low registers are permitted nothing stops format 5, whose ADD and MOV write one register; the offsets of formats 12 and
13 are the model's scaled ones. -/
theorem thumbHighAndAddress : Obligations.ThumbHighAndAddress := by
  unfold Obligations.ThumbHighAndAddress
  intro s d m rd off8 off7 hthumb
  rw [← times4_eq, ← times4_eq]
  refine ⟨fun hpermits => ?_, runs_setLo hthumb rfl, runs_setLo hthumb rfl,
    runs_setReg (r := 13) hthumb rfl, runs_setReg (r := 13) hthumb rfl⟩
  have hguard := State.guarded_of_permits hpermits firstCase_lowLowCase
  exact ⟨runs_hiWrite hthumb (hguard _), runs_hiWrite hthumb (hguard _), onlyFlags_op hthumb .cmp (s.reg d) (s.reg m) (hguard _)⟩

end Sys2Proof.Machine

end ThumbDataProcessing

/-! # Stores: the bytes, the event and the frame of one store and of a block (46_thumb_load_store.md R453 to R472, 20_memory.md R82 to R98) -/

section ThumbStoreFamily

open Sys2Proof.Machine Sys2Proof.Claims

namespace Sys2Proof.Machine

/-! ## Bytes that share no backing byte -/

/-- No byte of a region stands at both addresses, so a write at one never shows at the other. -/
def Apart (c : Config) (a b : Word) : Prop := ∀ r l, transform c a = .mapped r l → transform c b ≠ .mapped r l

theorem apart_of_transform_ne {c : Config} {a b : Word} (h : transform c b ≠ transform c a) : Apart c a b :=
  fun _ _ ha hb => h (hb.trans ha.symm)

theorem vramLocal_mod4 (c : Config) (n : Nat) : vramLocal c n % 4 = n % 4 := by
  unfold vramLocal
  cases c.vramTail <;> dsimp only <;> split <;> omega

/-- The transform keeps the place of a byte within its word: every region and every mirror starts at a multiple of four (R88). -/
theorem transform_mod4 {c : Config} {a : Word} {r : Region} {l : Nat} (h : transform c a = .mapped r l) : l % 4 = a.toNat % 4 := by
  have hvram := vramLocal_mod4 c a.toNat
  unfold transform at h
  dsimp only at h
  repeat' split at h
  all_goals cases h <;> omega

/-- The bytes of one access never share a backing byte, whether or not it is aligned. -/
theorem apart_of_mod4_ne {c : Config} {a b : Word} (h : a.toNat % 4 ≠ b.toNat % 4) : Apart c a b :=
  fun _ _ ha hb => h ((transform_mod4 ha).symm.trans (transform_mod4 hb))

theorem readByte_writeByte_apart {c : Config} {m : Memory} {a b : Word} (x : Byte) (hm : m.wf = true) (h : Apart c a b) :
    readByte c (writeByte c m a x) b = readByte c m b := by
  by_cases hsame : transform c b = transform c a
  · cases ha : transform c a with
    | mapped r l => exact absurd (hsame.trans ha) (h r l ha)
    | unmapped | outOfWindow => simp only [readByte, hsame, ha]
  · exact readByte_writeByte_ne x hm hsame

/-! ## The bytes of a store, one after the other -/

/-- The memory after the lowest `n` bytes of `v` are written from `a` up, the lowest address first (R82). -/
def writeBytes (c : Config) (m : Memory) (a v : Word) : Nat → Memory
  | 0 => m
  | n + 1 => writeByte c (writeBytes c m a v n) (a + BitVec.ofNat 32 n) (v.extractLsb' (8 * n) 8)

theorem writeWord_eq_writeBytes (c : Config) (m : Memory) (a v : Word) : writeWord c m a v = writeBytes c m a v 4 := by
  simp only [writeWord, writeBytes, BitVec.add_zero]; rfl

theorem writeHalf_eq_writeBytes (c : Config) (m : Memory) (a v : Word) : writeHalf c m a (v.setWidth 16) = writeBytes c m a v 2 := by
  rw [writeHalf, BitVec.extractLsb'_setWidth_of_le (by decide), BitVec.extractLsb'_setWidth_of_le (by decide)]
  simp only [writeBytes, BitVec.add_zero]; rfl

theorem writeByte_eq_writeBytes (c : Config) (m : Memory) (a v : Word) : writeByte c m a (v.setWidth 8) = writeBytes c m a v 1 := by
  rw [BitVec.setWidth_eq_extractLsb' (by decide)]
  simp only [writeBytes, BitVec.add_zero]

section Bytes

variable {c : Config} {m : Memory} {a b v : Word} {n : Nat}

theorem writeBytes_wf (hm : m.wf = true) : (writeBytes c m a v n).wf = true := by
  induction n with
  | zero => exact hm
  | succ n ih => exact writeByte_wf c _ _ ih

theorem readByte_writeBytes_apart (hm : m.wf = true) (h : ∀ k, k < n → Apart c (a + BitVec.ofNat 32 k) b) :
    readByte c (writeBytes c m a v n) b = readByte c m b := by
  induction n with
  | zero => rfl
  | succ n ih =>
    exact (readByte_writeByte_apart _ (writeBytes_wf hm) (h n (Nat.lt_succ_self n))).trans (ih fun k hk => h k (Nat.lt_succ_of_lt hk))

/-- Two bytes of an access of at most four are apart. -/
theorem apart_bytes {j k : Nat} (hj : j < 4) (hk : k < 4) (h : j ≠ k) : Apart c (a + BitVec.ofNat 32 j) (a + BitVec.ofNat 32 k) := by
  apply apart_of_mod4_ne
  simp only [BitVec.toNat_add, BitVec.toNat_ofNat]
  omega

end Bytes

/-- Each byte reads as it was written: the earlier bytes leave its old value, which the IF quirk needs, and the later ones leave it (R82, R98). -/
theorem State.readByte_writeBytes_written (s : State) (a v : Word) {k n : Nat} (hm : s.mem.wf = true) (hk : k < n) (hn : n ≤ 4) :
    readByte s.cfg (writeBytes s.cfg s.mem a v n) (a + BitVec.ofNat 32 k) = written s (a + BitVec.ofNat 32 k) (v.extractLsb' (8 * k) 8) := by
  induction n with
  | zero => omega
  | succ n ih =>
    rcases Nat.lt_succ_iff_lt_or_eq.1 hk with hlt | rfl
    · have hlater : Apart s.cfg (a + BitVec.ofNat 32 n) (a + BitVec.ofNat 32 k) := apart_bytes hn (by omega) (by omega)
      exact (readByte_writeByte_apart _ (writeBytes_wf hm) hlater).trans (ih hlt (by omega))
    · have hold : (s.setMem (writeBytes s.cfg s.mem a v k)).read8 (a + BitVec.ofNat 32 k) = s.read8 (a + BitVec.ofNat 32 k) :=
        readByte_writeBytes_apart hm fun j hj => apart_bytes (by omega) hn (by omega)
      have h := (s.setMem (writeBytes s.cfg s.mem a v k)).readByte_writeByte_written (a + BitVec.ofNat 32 k) (v.extractLsb' (8 * k) 8)
        (writeBytes_wf hm)
      rw [written, hold] at h
      exact h

/-! ## What a store leaves in memory and records (R82, R96) -/

theorem State.hook_ioEvents (s : State) (w : Width) (a v : Word) :
    (s.hook w a v).ioEvents = s.ioEvents ++ if inWindow s.cfg a then [⟨w, a, v, ioSnapshot s.cfg s.mem⟩] else [] := by
  cases h : inWindow s.cfg a <;> simp [State.hook, h]

/-- The low `n` bits of a word, as the hook records a narrow store. -/
theorem setWidth_setWidth_eq_and (v : Word) (n : Nat) : (v.setWidth n).setWidth 32 = v &&& BitVec.ofNat 32 (2 ^ n - 1) := by
  apply BitVec.eq_of_getLsbD_eq
  intro i hi
  rw [BitVec.getLsbD_setWidth, BitVec.getLsbD_setWidth, BitVec.getLsbD_and, BitVec.getLsbD_ofNat, Nat.testBit_two_pow_sub_one,
    decide_eq_true hi, Bool.true_and, Bool.true_and, Bool.and_comm]

section StoreValue

variable (s : State) (k : StoreKind) (a v : Word)

theorem State.storeValue_mem : (s.storeValue k a v).mem = writeBytes s.cfg s.mem (k.addr a) v k.width.bytes := by
  cases k with
  | word => exact (s.write32_mem _ v).trans (writeWord_eq_writeBytes ..)
  | half => exact (s.write16_mem _ _).trans (writeHalf_eq_writeBytes ..)
  | byte => exact (s.write8_mem a _).trans (writeByte_eq_writeBytes ..)

theorem State.storeValue_ioEvents : (s.storeValue k a v).ioEvents = s.ioEvents ++
    if inWindow s.cfg (k.addr a) then
      [⟨k.width, k.addr a, v &&& BitVec.ofNat 32 (2 ^ (8 * k.width.bytes) - 1), ioSnapshot s.cfg (s.storeValue k a v).mem⟩]
    else [] := by
  rw [← setWidth_setWidth_eq_and]
  cases k with
  | word =>
    have hv : (v.setWidth 32).setWidth 32 = v := by rw [BitVec.setWidth_eq, BitVec.setWidth_eq]
    rw [StoreKind.width, Width.bytes, hv, State.storeValue, State.write32, State.hook_ioEvents, State.hook_mem]; rfl
  | half => rw [State.storeValue, State.write16, State.hook_ioEvents, State.hook_mem]; rfl
  | byte => rw [State.storeValue, State.write8, State.hook_ioEvents, State.hook_mem]; rfl

theorem State.storeValue_storesTo (hm : s.mem.wf = true) : StoresTo s (s.storeValue k a v) k.width (k.addr a) v := by
  have hn : k.width.bytes ≤ 4 := by cases k <;> decide
  refine ⟨fun b hb => ?_, fun j hj => ?_, ?_⟩
  · rw [State.read8, State.storeValue_cfg, State.storeValue_mem]
    exact readByte_writeBytes_apart hm fun j hj => apart_of_transform_ne (hb j hj)
  · rw [State.read8, State.storeValue_cfg, State.storeValue_mem]
    exact s.readByte_writeBytes_written _ v hm hj hn
  · rw [State.storeValue_cfg]
    exact s.storeValue_ioEvents k a v

end StoreValue

/-! ## A block of words written (R350) -/

theorem State.write32_ioEvents (s : State) (a v : Word) : (s.write32 a v).ioEvents = s.ioEvents ++
    if inWindow s.cfg a then [⟨.w32, a, v, ioSnapshot s.cfg (writeWord s.cfg s.mem a v)⟩] else [] :=
  State.hook_ioEvents ..

theorem State.storeWords_mem (ws : List (Word × Word)) (s : State) : (s.storeWords ws).mem = memoryAfter s.cfg s.mem ws := by
  induction ws generalizing s with
  | nil => rfl
  | cons x ws ih =>
    obtain ⟨a, v⟩ := x
    rw [State.storeWords, ih, State.write32_cfg, State.write32_mem, memoryAfter]

theorem State.storeWords_ioEvents (ws : List (Word × Word)) (s : State) :
    (s.storeWords ws).ioEvents = s.ioEvents ++ eventsAfter s.cfg s.mem ws := by
  induction ws generalizing s with
  | nil => exact (List.append_nil _).symm
  | cons x ws ih =>
    obtain ⟨a, v⟩ := x
    rw [State.storeWords, ih, State.write32_cfg, State.write32_mem, State.write32_ioEvents, eventsAfter, List.append_assoc]

/-- A block leaves every byte that is apart from all bytes of its words. -/
theorem readByte_memoryAfter_apart {c : Config} {b : Word} {ws : List (Word × Word)} {m : Memory} (hm : m.wf = true)
    (h : ∀ x ∈ ws, ∀ k, k < 4 → Apart c (x.1 + BitVec.ofNat 32 k) b) : readByte c (memoryAfter c m ws) b = readByte c m b := by
  induction ws generalizing m with
  | nil => rfl
  | cons x ws ih =>
    obtain ⟨hx, hws⟩ := List.forall_mem_cons.1 h
    rw [memoryAfter, ih (writeWord_wf c x.1 x.2 hm) hws, writeWord_eq_writeBytes, readByte_writeBytes_apart hm hx]

/-- Charges before the words change nothing of what a block store says. -/
theorem State.storeWords_storesBlock {s t : State} (ws : List (Word × Word)) (hcfg : t.cfg = s.cfg) (hmem : t.mem = s.mem)
    (hio : t.ioEvents = s.ioEvents) (hm : s.mem.wf = true) : StoresBlock s (t.storeWords ws) ws := by
  obtain ⟨-, -, -, -, -, -, -, -, hkept, -⟩ := State.storeWords_keeps ws t
  rw [StoresBlock, State.storeWords_mem, State.storeWords_ioEvents, hcfg, hmem, hio]
  refine ⟨fun b hb => ?_, rfl, rfl⟩
  rw [State.read8, hkept, State.storeWords_mem, hcfg, hmem]
  exact readByte_memoryAfter_apart hm fun x hx k hk => apart_of_transform_ne (hb x hx k hk)

/-! ## The words of a block and their registers (R345, R350) -/

theorem wordsFrom_succ (a : Word) (n : Nat) : wordsFrom a (n + 1) = alignWord a :: wordsFrom (a + 4) n := by
  rw [wordsFrom, List.range_succ_eq_map, List.map_cons, List.map_map, wordsFrom]
  congr 1
  · rw [Nat.mul_zero, BitVec.add_zero]; rfl
  · refine List.map_congr_left fun k _ => ?_
    have hk : BitVec.ofNat 32 (4 * k.succ) = 4 + BitVec.ofNat 32 (4 * k) := by
      rw [Nat.mul_succ, Nat.add_comm, BitVec.ofNat_add]; rfl
    rw [Function.comp_apply, hk, BitVec.add_assoc]

theorem blockPairs_eq_zip (a : Word) (rs : List Reg) : blockPairs a rs = rs.zip (wordsFrom a rs.length) := by
  induction rs generalizing a with
  | nil => rfl
  | cons r rs ih => rw [blockPairs, ih, List.length_cons, wordsFrom_succ, List.zip_cons_cons]

theorem blockPairs_snd (a : Word) (rs : List Reg) : (blockPairs a rs).map Prod.snd = wordsFrom a rs.length := by
  rw [blockPairs_eq_zip]
  exact List.map_snd_zip (by rw [wordsFrom, List.length_map, List.length_range])

theorem blockFaults_of_accessible {s : State} {a : Word} {rs : List Reg} (h : Accessible s (wordsFrom a rs.length)) :
    blockFaults s.cfg (blockPairs a rs) = false := by
  rw [Accessible, ← blockPairs_snd, List.forall_mem_map] at h
  exact List.any_eq_false.2 fun x hx => Bool.eq_false_iff.1 (h x hx)

theorem State.storedReg_eq_blockValue (s : State) (user : Bool) (rs : List Reg) (wb : Bool) (rn : Reg) (back : Word) (i : Reg) :
    s.storedReg user rs wb rn back i = blockValue s user rs wb rn back i := by
  by_cases h15 : i = 15
  · subst h15
    simp [State.storedReg, blockValue, State.getReg]
  · cases user <;> simp [State.storedReg, blockValue, State.getReg, State.userReg, State.reg, h15]

theorem State.storedWords_eq_zip (s : State) (user : Bool) (rs : List Reg) (wb : Bool) (rn : Reg) (back a : Word) :
    s.storedWords user rs wb rn back (blockPairs a rs) =
      (wordsFrom a rs.length).zip (rs.map (blockValue s user rs wb rn back)) := by
  rw [List.zip_map_right, ← List.zip_swap, List.map_map, ← blockPairs_eq_zip, State.storedWords]
  refine List.map_congr_left fun x _ => ?_
  rw [State.storedReg_eq_blockValue]; rfl

end Sys2Proof.Machine

namespace Sys2Proof.Claims

/-! ## The frame of a store: its charges, the write-back and the fetch after it (70_reset_and_hazards.md R594, R595) -/

section Frame

variable {s t u : State} {w : List (Phys × Word)} {cpsr : Word} {spsr : Mode → Option Word} {n : Nat}

/-- Only the memory and the events of the later state count. -/
theorem StoresTo.congr {wd : Width} {a v : Word} (h : StoresTo s t wd a v) (hcfg : u.cfg = t.cfg) (hmem : u.mem = t.mem)
    (hio : u.ioEvents = t.ioEvents) : StoresTo s u wd a v := by
  simpa only [StoresTo, State.read8, hcfg, hmem, hio] using h

theorem StoresBlock.congr {ws : List (Word × Word)} (h : StoresBlock s t ws) (hcfg : u.cfg = t.cfg) (hmem : u.mem = t.mem)
    (hio : u.ioEvents = t.ioEvents) : StoresBlock s u ws := by
  simpa only [StoresBlock, State.read8, hcfg, hmem, hio] using h

namespace Core

theorem storeValue (h : Core s t w cpsr spsr n) (k : StoreKind) (a v : Word) : Core s (t.storeValue k a v) w cpsr spsr n := by
  simpa only [Core, RegistersAre, Took, RestKept, State.storeValue_regs, State.storeValue_cpsr, State.storeValue_spsr,
    State.storeValue_cycles, State.storeValue_sched, State.storeValue_costCode, State.storeValue_costData, State.storeValue_fault,
    State.storeValue_cfg, State.storeValue_fiqLine, State.storeValue_draws] using h

theorem storeWords (h : Core s t w cpsr spsr n) (ws : List (Word × Word)) : Core s (t.storeWords ws) w cpsr spsr n := by
  obtain ⟨hregs, hcpsr, hspsr, hcycles, hsched, hcode, hdata, hfault, hcfg, hfiq, hdraws⟩ := State.storeWords_keeps ws t
  simpa only [Core, RegistersAre, Took, RestKept, hregs, hcpsr, hspsr, hcycles, hsched, hcode, hdata, hfault, hcfg, hfiq, hdraws] using h

theorem writeBack (h : Core s t w cpsr spsr n) (hmode : t.mode = s.mode) (hthumb : t.thumb = s.thumb) (b : Bool) (i : Reg) (v : Word) :
    Core s (t.writeBack b i v) ((if b then [dest s i v] else []) ++ w) cpsr spsr n := by
  cases b with
  | false => exact h
  | true => exact dest_congr hmode hthumb i v ▸ h.setReg i v

/-- The rest of a block after its first word: every access sequential (R595). -/
theorem chargeBlock_s (h : Core s t w cpsr spsr n) (ps : List (Reg × Word)) :
    Core s (t.chargeBlock .s ps) w cpsr spsr (n + ((ps.map Prod.snd).map fun a => s.costOf .data .s .w32 a).sum) := by
  induction ps generalizing t n with
  | nil => exact h
  | cons x ps ih =>
    have h' := ih (h.charge .data .s .w32 x.2)
    rw [Nat.add_assoc, ← List.sum_cons] at h'
    exact h'

theorem chargeBlock (h : Core s t w cpsr spsr n) (ps : List (Reg × Word)) :
    Core s (t.chargeBlock .n ps) w cpsr spsr (n + blockCost s (ps.map Prod.snd)) := by
  cases ps with
  | nil => exact h
  | cons x ps =>
    have h' := (h.charge .data .n .w32 x.2).chargeBlock_s ps
    rw [Nat.add_assoc] at h'
    exact h'

theorem pc_eq (h : Core s t w cpsr spsr n) : t.pc = valueIn w s.pc .r15 := by
  obtain ⟨hregs, -⟩ := h
  exact hregs .r15

/-- The fetch after a store is at the program counter it leaves. -/
theorem nnext (h : Core s t w s.cpsr spsr n) : Core s t.nnext w s.cpsr spsr (n + nextFetch s w) := by
  have hcost : nextFetch s w = s.costOf .code .n t.fw t.pc := by rw [State.fw_congr h.cpsr_eq, h.pc_eq]; rfl
  exact hcost ▸ h.charge .code .n t.fw t.pc

end Core

/-- The registers a store leaves in either state: its base where it is written back, and the following instruction's address. -/
def registersAfterStore (s : State) (wb : Bool) (rn : Reg) (back : Word) : List (Phys × Word) :=
  (if wb then [dest s rn back] else []) ++ [(.r15, s.pc + s.ilen)]

theorem nextFetch_cons_of_ne {p : Phys} (hp : p ≠ .r15) (v : Word) : nextFetch s ((p, v) :: w) = nextFetch s w := by
  rw [nextFetch, valueIn, if_neg (Ne.symm hp), nextFetch]

end Frame

end Sys2Proof.Claims

namespace Sys2Proof.Machine

/-! ## The single store and the block store, with or without write-back -/

theorem StoreKind.storeAt_eq (k : StoreKind) (a : Word) : storeAt k a = (k.addr a, k.width) := by cases k <;> rfl

/-- A store that may be accessed: the data access, the write-back, the fetch after it and the stored bytes (R594). -/
theorem State.store_completes (s : State) (k : StoreKind) (a v : Word) (wb : Bool) (rn : Reg) (back : Word)
    (hacc : accessFaults s.cfg (storeAt k a).1 (storeAt k a).2 = false) (hm : s.mem.wf = true) :
    ∃ t : State, s.store k a v wb rn back = .next t ∧
      Core s t (registersAfterStore s wb rn back) s.cpsr s.spsr.get
        (s.costOf .data .n (storeAt k a).2 (storeAt k a).1 + nextFetch s (registersAfterStore s wb rn back)) ∧
      StoresTo s t (storeAt k a).2 (storeAt k a).1 v := by
  rw [StoreKind.storeAt_eq] at hacc ⊢
  have hcharged := ((Core.refl s).charge .data .n k.width (k.addr a)).advance.storeValue k a v
  rw [Nat.zero_add] at hcharged
  have hstored := (s.charge .data .n k.width (k.addr a)).advance.storeValue_storesTo k a v hm
  refine ⟨_, State.access_ok hacc _, ?_, ?_⟩
  · exact (hcharged.writeBack (State.mode_congr hcharged.cpsr_eq) (State.thumb_congr hcharged.cpsr_eq) wb rn back).nnext
  · exact StoresTo.congr (s := s) hstored (State.writeBack_cfg ..) (State.writeBack_mem ..) (State.writeBack_ioEvents ..)

/-- A block store whose words may all be accessed (R350, R595). -/
theorem State.storeBlock_completes (s : State) (user early : Bool) (start : Word) (rs : List Reg) (wb : Bool) (rn : Reg) (back : Word)
    (hacc : Accessible s (wordsFrom start rs.length)) (hm : s.mem.wf = true) :
    ∃ t : State, s.storeBlock user early start rs wb rn back = .next t ∧
      Core s t (registersAfterStore s wb rn back) s.cpsr s.spsr.get
        (blockCost s (wordsFrom start rs.length) + nextFetch s (registersAfterStore s wb rn back)) ∧
      StoresBlock s t ((wordsFrom start rs.length).zip (rs.map (blockValue s user rs wb rn back))) := by
  obtain ⟨hregs, hcpsr, -, hmem, -, -, hio, -, hcfg, -, -⟩ := State.chargeBlock_keeps (blockPairs start rs) s .n
  have hnext : (s.chargeBlock .n (blockPairs start rs)).pc + (s.chargeBlock .n (blockPairs start rs)).ilen = s.pc + s.ilen := by
    rw [State.pc, hregs, State.ilen_congr hcpsr, State.pc]
  have hcharged := ((Core.refl s).chargeBlock (blockPairs start rs)).advance
  rw [hnext, Nat.zero_add, blockPairs_snd] at hcharged
  have hcore := hcharged.storeWords (s.storedWords user rs wb rn back (blockPairs start rs))
  have hstored := State.storeWords_storesBlock (t := (s.chargeBlock .n (blockPairs start rs)).advance)
    (s.storedWords user rs wb rn back (blockPairs start rs)) hcfg hmem hio hm
  unfold State.storeBlock
  refine ⟨_, State.accessBlock_ok (blockFaults_of_accessible hacc) _ _, ?_, ?_⟩
  · exact (hcore.writeBack (State.mode_congr hcore.cpsr_eq) (State.thumb_congr hcore.cpsr_eq) wb rn back).nnext
  · rw [← State.storedWords_eq_zip]
    exact hstored.congr (State.writeBack_cfg ..) (State.writeBack_mem ..) (State.writeBack_ioEvents ..)

/-! ## The Thumb forms -/

theorem LoReg.toReg_ne_15 (r : LoReg) : r.toReg ≠ 15 := by
  rw [Ne, Fin.ext_iff]
  exact Nat.ne_of_lt (Nat.lt_trans r.isLt (by decide))

theorem times2_eq {w : Nat} (off : BitVec w) : times2 off = (off ++ 0#1).setWidth 32 := (setWidth_append_zero 32 1 off).symm

theorem thumbStores_of_thumbStore {s : State} {i : Instr} {k : StoreKind} {a : Word} {rd : LoReg} (hthumb : s.thumb = true)
    (hm : s.mem.wf = true) (hi : exec i s = s.thumbStore k a rd) : ThumbStores i s k a rd := by
  intro hacc
  have h := s.store_completes k a (s.lo rd) false 0 0 hacc hm
  rw [State.lo, State.reg_of_ne s (LoReg.toReg_ne_15 rd), registersAfterStore, State.ilen_thumb hthumb] at h
  rw [hi, State.thumbStore, State.lo, State.reg_of_ne s (LoReg.toReg_ne_15 rd)]
  exact h

/-- Settles O44: each form is one store of a low register at its address; the scaled offsets are the model's. -/
theorem thumbStoreForms : Obligations.ThumbStoreForms := by
  unfold Obligations.ThumbStoreForms
  intro s ro rb rd off5 off8 hthumb hm
  rw [← times4_eq, ← times4_eq, ← times2_eq]
  exact ⟨thumbStores_of_thumbStore hthumb hm rfl, thumbStores_of_thumbStore hthumb hm rfl, thumbStores_of_thumbStore hthumb hm rfl,
    thumbStores_of_thumbStore hthumb hm rfl, thumbStores_of_thumbStore hthumb hm rfl, thumbStores_of_thumbStore hthumb hm rfl,
    thumbStores_of_thumbStore hthumb hm rfl⟩

theorem firstCase_pushPopCase {r : Bool} {list : BitVec 8} (h : list ≠ 0 ∨ r = true) : firstCase (pushPopCase r list) = none := by
  refine firstCase_none fun x hx => ?_
  rw [List.mem_singleton.1 hx]
  rcases h with hlist | hr
  · rw [decide_eq_false hlist, Bool.and_false]
  · rw [hr]; rfl

theorem firstCase_multipleCase {list : BitVec 8} (h : list ≠ 0) : firstCase (multipleCase list) = none := by
  rw [multipleCase, decide_eq_false h]; rfl

theorem lowList_lt {list : BitVec 8} {i : Reg} (h : i ∈ lowList list) : i.val < 8 := by
  have hbit := (List.mem_filter.1 h).2
  by_contra hge
  rw [BitVec.getLsbD_setWidth, BitVec.getLsbD_of_ge list _ (Nat.le_of_not_lt hge), Bool.and_false] at hbit
  cases hbit

/-- PUSH stores low registers and register 14: neither its base nor the program counter. -/
theorem pushList_ne {r : Bool} {list : BitVec 8} {i : Reg} (h : i ∈ pushList r list) : i ≠ 13 ∧ i ≠ 15 := by
  rcases List.mem_append.1 h with hlow | hlink
  · have hlt := lowList_lt hlow
    constructor <;> rintro rfl <;> exact absurd hlt (by decide)
  · cases r with
    | false => cases hlink
    | true => rw [List.mem_singleton.1 hlink]; decide

theorem blockValue_of_ne {s : State} {rs : List Reg} {wb : Bool} {rn i : Reg} {back : Word} (hrn : i ≠ rn) (h15 : i ≠ 15) :
    blockValue s false rs wb rn back i = s.regs.get (phys s.mode i) := by
  rw [blockValue, if_neg h15, if_neg fun h => hrn h.1]; rfl

/-- A Thumb block store writes its base back, which is no branch (R470, R472). -/
theorem thumbStoreBlock_completes {s : State} {i : Instr} {early : Bool} {start : Word} {rs : List Reg} {rn : Reg} {back : Word}
    (hthumb : s.thumb = true) (hm : s.mem.wf = true) (hrn : rn ≠ 15) (hi : exec i s = s.storeBlock false early start rs true rn back)
    (hacc : Accessible s (wordsFrom start rs.length)) :
    ∃ t : State, exec i s = .next t ∧
      Core s t [(phys s.mode rn, back), (.r15, s.pc + 2)] s.cpsr s.spsr.get
        (blockCost s (wordsFrom start rs.length) + nextFetch s [(.r15, s.pc + 2)]) ∧
      StoresBlock s t ((wordsFrom start rs.length).zip (rs.map (blockValue s false rs true rn back))) := by
  have h := s.storeBlock_completes false early start rs true rn back hacc hm
  rw [registersAfterStore, if_pos rfl, dest, if_neg hrn, State.ilen_thumb hthumb, List.singleton_append,
    nextFetch_cons_of_ne (mt (phys_eq_r15 s.mode rn).1 hrn)] at h
  rw [hi]
  exact h

/-- Settles O46: both are one block store that writes its base back; PUSH has its base not in the list, so it stores the registers as they are, and
STMIA's values are those of `blockValue`. An empty list stores nothing, once the policy permits it. -/
theorem thumbStoreMultiple : Obligations.ThumbStoreMultiple := by
  unfold Obligations.ThumbStoreMultiple
  intro s r rb list hthumb hm
  constructor
  · intro hpermits rs a as hacc
    have hguard := State.guarded_of_permits hpermits firstCase_pushPopCase
    have hvalues : rs.map (blockValue s false rs true 13 a) = rs.map fun i => s.regs.get (phys s.mode i) :=
      List.map_congr_left fun i hi => blockValue_of_ne (pushList_ne hi).1 (pushList_ne hi).2
    rw [← hvalues]
    exact thumbStoreBlock_completes hthumb hm (by decide) (hguard _) hacc
  · intro hpermits rs back as hacc
    have hguard := State.guarded_of_permits hpermits firstCase_multipleCase
    exact thumbStoreBlock_completes hthumb hm (LoReg.toReg_ne_15 rb) (hguard _) hacc

end Sys2Proof.Machine

end ThumbStoreFamily

/-! # The Thumb branches and the two halves of BL (47_thumb_branch.md R500 to R511) -/

section ThumbBranchFamily

open Sys2Proof.Machine Sys2Proof.Claims

namespace Sys2Proof.Machine

/-! ## The offsets: the model shifts after it widens, the rules append the zeros before (30_encoding.md R148) -/

theorem branchOffset8_eq (off : BitVec 8) : branchOffset8 off = (off ++ 0#1).signExtend 32 := (signExtend_append_zero 32 1 off).symm

theorem branchOffset11_eq (off : BitVec 11) : branchOffset11 off = (off ++ 0#1).signExtend 32 := (signExtend_append_zero 32 1 off).symm

theorem blOffsetHi_eq (off : BitVec 11) : blOffsetHi off = (off ++ 0#12).signExtend 32 := (signExtend_append_zero 32 12 off).symm

theorem blOffsetLo_eq (off : BitVec 11) : blOffsetLo off = (off ++ 0#1).setWidth 32 := (setWidth_append_zero 32 1 off).symm

/-! ## What each form runs -/

section Forms

variable {s : State} {i : Instr} {target link : Word}

/-- A branch not taken only advances (R500). -/
theorem runs_fetched (hthumb : s.thumb = true) (hi : exec i s = .next s.fetched) : Runs i s [(.r15, s.pc + 2)] s.cpsr (own s) := by
  have hcore := Core.fetched_thumb hthumb
  exact ⟨_, hi, hcore, hcore.memoryKept rfl rfl⟩

theorem runs_jump (hthumb : s.thumb = true) (hi : exec i s = .next (s.jump target)) :
    Runs i s [(.r15, target)] s.cpsr (own s + refillAt s true target) := by
  have hcore := Core.jump s target
  rw [hthumb] at hcore
  exact ⟨_, hi, hcore, hcore.memoryKept rfl rfl⟩

theorem runs_jumpWithLink (hthumb : s.thumb = true) (hi : exec i s = .next ((s.fetched.setReg 14 link).setPc target).refill) :
    Runs i s [(.r15, target), (phys s.mode 14, link)] s.cpsr (own s + refillAt s true target) := by
  have hcore := Core.jumpWithLink s link target
  rw [hthumb] at hcore
  exact ⟨_, hi, hcore, hcore.memoryKept rfl rfl⟩

end Forms

theorem exec_tBCond_of_passes {s : State} {c : Cond} (h : s.passes c = true) (off : BitVec 8) :
    exec (.tBCond c off) s = .next (s.jump (s.pc + 4 + branchOffset8 off)) :=
  congrArg Host.Outcome.next (if_pos h)

theorem exec_tBCond_of_fails {s : State} {c : Cond} (h : s.passes c = false) (off : BitVec 8) :
    exec (.tBCond c off) s = .next s.fetched :=
  congrArg Host.Outcome.next (if_neg (Bool.eq_false_iff.1 h))

/-! ## The two statements -/

/-- Settles O47: a branch taken is the fetch and the jump to the model's shifted offset, one not taken is the fetch alone. -/
theorem thumbBranches : Obligations.ThumbBranches := by
  unfold Obligations.ThumbBranches
  intro s c off8 off11 hthumb
  rw [← branchOffset8_eq, ← branchOffset11_eq]
  exact ⟨fun hpass => runs_jump hthumb (exec_tBCond_of_passes hpass off8),
    fun hfail => runs_fetched hthumb (exec_tBCond_of_fails hfail off8), runs_jump hthumb rfl⟩

/-- Settles O48: the first half is the fetch and a write of register 14, the second a branch with a link, its target from the register 14 before
the link is written. -/
theorem thumbBranchLink : Obligations.ThumbBranchLink := by
  unfold Obligations.ThumbBranchLink
  intro s off hthumb
  rw [← blOffsetHi_eq, ← blOffsetLo_eq, ← s.reg_of_ne (i := 14) (by decide)]
  exact ⟨runs_setReg (r := 14) hthumb rfl, runs_jumpWithLink hthumb rfl⟩

end Sys2Proof.Machine

end ThumbBranchFamily

/-! # Every step: what it is made of, and what it therefore keeps (10_state.md R39, R42, R51 to R55, 20_memory.md R90) -/

section EveryStep

open Sys2Proof.Claims

namespace Sys2Proof.Machine

/-! ## The named operations an instruction is made of -/

/-- From `s` to a state by the model's named operations alone. A new program counter is aligned for the state, and a new CPSR names a mode, where
`A` holds: a branch offset keeps the alignment only from an aligned address, in the state of its own table. -/
inductive Micro (A : Prop) (s : State) : State → Prop
  | refl : Micro A s s
  | internal {t : State} (h : Micro A s t) (n : Nat) : Micro A s (t.internal n)
  | advance {t : State} (h : Micro A s t) : Micro A s t.advance
  | setPc {t : State} (h : Micro A s t) {v : Word} (hv : A → alignPc t.thumb v = v) : Micro A s (t.setPc v)
  | write {t : State} (h : Micro A s t) {p : Phys} (hp : p ≠ .r15) (v : Word) : Micro A s { t with regs := t.regs.set p v }
  | writeFlags {t : State} (h : Micro A s t) (n z c v : Bool) : Micro A s (t.writeFlags n z c v)
  | storeValue {t : State} (h : Micro A s t) (k : StoreKind) (a v : Word) : Micro A s (t.storeValue k a v)
  | setSpsr {t : State} (h : Micro A s t) (p : Spsrs) : Micro A s { t with spsr := p }
  | setCpsr {t : State} (h : Micro A s t) {v a : Word} (hv : A → (Mode.ofBits (modeField v)).isSome = true)
      (ha : A → alignPc (v.getLsbD 5) a = a) : Micro A s (({ t with cpsr := v } : State).setPc a)

/-- The parameters, the costs, the fault mark and the inputs are as before, no event is taken back, and both counters move by one amount. -/
structure State.Framed (s t : State) : Prop where
  cfg : t.cfg = s.cfg
  costCode : t.costCode = s.costCode
  costData : t.costData = s.costData
  fault : t.fault = s.fault
  events : ∃ es, t.ioEvents = s.ioEvents ++ es
  counters : ∃ n : DWord, t.cycles = s.cycles + n ∧ t.sched = s.sched + n
  fiqLine : t.fiqLine = s.fiqLine
  draws : t.draws = s.draws

/-- A write leaves every byte that no program can write, whether it goes there or not (20_memory.md R89). -/
theorem readByte_writeBytes_image {c : Config} {m : Memory} {a b v : Word} {n : Nat} (hm : m.wf = true)
    (hb : ∀ r l, transform c b = .mapped r l → r = .bios ∨ r = .rom) : readByte c (writeBytes c m a v n) b = readByte c m b := by
  induction n with
  | zero => rfl
  | succ n ih =>
    refine Eq.trans ?_ ih
    by_cases hsame : transform c b = transform c (a + BitVec.ofNat 32 n)
    · cases htr : transform c b with
      | mapped r l =>
        change readByte c (writeByte c (writeBytes c m a v n) (a + BitVec.ofNat 32 n) _) b = _
        rw [readByte_of_transform _ hsame, readByte_of_transform _ hsame,
          readByte_writeByte_same _ (writeBytes_wf hm) (hsame.symm.trans htr), if_pos ((Region.writable_eq_false_iff r).2 (hb r l htr))]
      | unmapped | outOfWindow => simp only [readByte, htr]
    · exact readByte_writeByte_ne _ (writeBytes_wf hm) hsame

/-- A word-aligned address is aligned in either state. -/
theorem alignPc_of_arm (thumb : Bool) {v : Word} (h : alignPc false v = v) : alignPc thumb v = v := by
  cases thumb with
  | false => exact h
  | true =>
    rw [alignPc_arm] at h
    exact (alignPc_thumb v).2 (by omega)

namespace Micro

variable {A : Prop} {s t u : State} {i : Instr}

/-! ## What every run of named operations keeps -/

theorem inv (h : Micro A s t) (hA : A) (hs : s.Inv) : t.Inv := by
  induction h with
  | refl => exact hs
  | internal _ n ih => exact ih.internal n
  | advance _ ih => exact ih.advance
  | setPc _ hv ih => exact ih.setPc (hv hA)
  | write _ hp v ih => exact ih.congr rfl (Regs.set_r15_of_ne _ v hp) rfl
  | writeFlags _ n z c v ih => exact ih.writeFlags n z c v
  | storeValue _ k a v ih => exact ih.storeValue k a v
  | setSpsr _ p ih => exact ih.congr rfl rfl rfl
  | setCpsr _ hv ha ih => exact .mk' (hv hA) (ha hA) ih.mem

theorem mono {B : Prop} (h : Micro A s t) (hBA : B → A) : Micro B s t := by
  induction h with
  | refl => exact refl
  | internal _ n ih => exact ih.internal n
  | advance _ ih => exact ih.advance
  | setPc _ hv ih => exact ih.setPc (hv ∘ hBA)
  | write _ hp v ih => exact ih.write hp v
  | writeFlags _ n z c v ih => exact ih.writeFlags n z c v
  | storeValue _ k a v ih => exact ih.storeValue k a v
  | setSpsr _ p ih => exact ih.setSpsr p
  | setCpsr _ hv ha ih => exact ih.setCpsr (hv ∘ hBA) (ha ∘ hBA)

/-- Only the charges move the counters and only the stores record events. -/
theorem framed (h : Micro A s t) : s.Framed t := by
  induction h with
  | refl =>
    exact ⟨rfl, rfl, rfl, rfl, ⟨[], (List.append_nil _).symm⟩, ⟨0, (BitVec.add_zero _).symm, (BitVec.add_zero _).symm⟩, rfl, rfl⟩
  | internal _ n ih =>
    obtain ⟨k, hcycles, hsched⟩ := ih.counters
    exact ⟨ih.cfg, ih.costCode, ih.costData, ih.fault, ih.events,
      ⟨k + BitVec.ofNat 64 n, by rw [State.internal_cycles, hcycles, BitVec.add_assoc], by rw [State.internal_sched, hsched, BitVec.add_assoc]⟩,
      ih.fiqLine, ih.draws⟩
  | storeValue _ k a v ih =>
    obtain ⟨es, hes⟩ := ih.events
    refine ⟨by simp [ih.cfg], by simp [ih.costCode], by simp [ih.costData], by simp [ih.fault], ?_, by simpa using ih.counters,
      by simp [ih.fiqLine], by simp [ih.draws]⟩
    exact ⟨_, by rw [State.storeValue_ioEvents, hes, List.append_assoc]⟩
  | advance _ ih | setPc _ _ ih | write _ _ _ ih | writeFlags _ _ _ _ _ ih | setSpsr _ _ ih | setCpsr _ _ _ ih =>
    exact ⟨ih.cfg, ih.costCode, ih.costData, ih.fault, ih.events, ih.counters, ih.fiqLine, ih.draws⟩

/-- A byte that no program can write reads as before: every write goes through `writeByte` (20_memory.md R89, R90). -/
theorem image_kept (h : Micro A s t) (hm : s.mem.wf = true) {a : Word} (ha : ∀ r l, transform s.cfg a = .mapped r l → r = .bios ∨ r = .rom) :
    t.mem.wf = true ∧ t.read8 a = s.read8 a := by
  induction h with
  | refl => exact ⟨hm, rfl⟩
  | @storeValue t h k b v ih =>
    obtain ⟨hwf, hread⟩ := ih
    refine ⟨State.storeValue_wf t k b v hwf, Eq.trans ?_ hread⟩
    rw [State.read8, State.storeValue_cfg, State.storeValue_mem]
    exact readByte_writeBytes_image hwf (h.framed.cfg ▸ ha)
  | internal _ _ ih | advance _ ih | setPc _ _ ih | write _ _ _ ih | writeFlags _ _ _ _ _ ih | setSpsr _ _ ih | setCpsr _ _ _ ih => exact ih

/-! ## The operations built from them -/

theorem charge (h : Micro A s t) (k : Kind) (q : Seq) (w : Width) (a : Word) : Micro A s (t.charge k q w a) := h.internal _

theorem fetched (h : Micro A s t) : Micro A s t.fetched := (h.charge _ _ _ _).advance

theorem refill (h : Micro A s t) : Micro A s t.refill := (h.charge _ _ _ _).charge _ _ _ _

theorem nnext (h : Micro A s t) : Micro A s t.nnext := h.charge _ _ _ _

/-- A branch aligns whatever it is given (10_state.md R38). -/
theorem branch (h : Micro A s t) (v : Word) : Micro A s (t.branch v) := h.setPc fun _ => alignPc_idem _ _

theorem jump (h : Micro A s t) {v : Word} (hv : A → alignPc t.thumb v = v) : Micro A s (t.jump v) := (h.fetched.setPc hv).refill

theorem setReg (h : Micro A s t) (r : Reg) (v : Word) : Micro A s (t.setReg r v) := by
  by_cases h15 : r = 15
  · subst h15; exact h.branch v
  · rw [State.setReg_eq t v h15]
    exact h.write (mt (phys_eq_r15 _ _).1 h15) v

theorem setUserReg (h : Micro A s t) (r : Reg) (v : Word) : Micro A s (t.setUserReg r v) := by
  by_cases h15 : r = 15
  · subst h15; exact h.branch v
  · rw [State.setUserReg_eq t v h15]
    exact h.write (mt (phys_eq_r15 _ _).1 h15) v

theorem setLo (h : Micro A s t) (r : LoReg) (v : Word) : Micro A s (t.setLo r v) := h.setReg _ v

theorem aluFlags (h : Micro A s t) (o : Alu) : Micro A s (t.aluFlags o) := h.writeFlags _ _ _ _

theorem writeBack (h : Micro A s t) (b : Bool) (r : Reg) (v : Word) : Micro A s (t.writeBack b r v) := by
  cases b with
  | false => exact h
  | true => exact h.setReg r v

theorem chargeBlock (h : Micro A s t) (q : Seq) (ps : List (Reg × Word)) : Micro A s (t.chargeBlock q ps) := by
  induction ps generalizing t q with
  | nil => exact h
  | cons x ps ih => exact ih (h.charge .data q .w32 x.2) .s

theorem loadRegs (h : Micro A s t) (user : Bool) (ps : List (Reg × Word)) : Micro A s (t.loadRegs user ps) := by
  induction ps generalizing t with
  | nil => exact h
  | cons x ps ih =>
    cases user with
    | false => exact ih (h.setReg x.1 _)
    | true => exact ih (h.setUserReg x.1 _)

/-- A word store aligns its address, and the words of a block stand at aligned addresses (R345). -/
theorem storeWords (h : Micro A s t) {ws : List (Word × Word)} (hws : ∀ x ∈ ws, alignWord x.1 = x.1) : Micro A s (t.storeWords ws) := by
  induction ws generalizing t with
  | nil => exact h
  | cons x ws ih =>
    obtain ⟨hx, hws⟩ := List.forall_mem_cons.1 hws
    have hstore : t.write32 x.1 x.2 = t.storeValue .word x.1 x.2 := by rw [State.storeValue, hx]
    exact ih (hstore ▸ h.storeValue .word x.1 x.2) hws

theorem enter (h : Micro A s t) (e : Exc) (ret : Word) : Micro A s (t.enter e ret) := by
  have hlink : phys e.mode 14 ≠ .r15 := by cases e <;> decide
  refine ((h.setSpsr (t.spsr.set e.mode t.cpsr)).write hlink ret).setCpsr (v := e.cpsr t.cpsr) (a := e.vector) (fun _ => ?_) (fun _ => ?_)
  · rw [modeField_excCpsr, Mode.ofBits_bits]; rfl
  · rw [Exc.cpsr_thumb]; cases e <;> decide

theorem trap (h : Micro A s t) (e : Exc) : Micro A s (t.trap e) := (h.fetched.enter e _).refill

/-- Either branch of a choice of states. -/
theorem ite {c : Prop} [Decidable c] (ht : Micro A s t) (hu : Micro A s u) : Micro A s (if c then t else u) := by
  split
  · exact ht
  · exact hu

/-! ## The shared operations -/

/-- Every return aligns its target for the T bit it restores (R259, R357). -/
theorem exceptionReturn {stuck : State} {r : ReturnAlign} {a : Word} (h : Micro A s t) (hu : t.exceptionReturn stuck r a = .next u) :
    Micro A s u := by
  obtain ⟨v, -, hlegal, rfl⟩ := State.exceptionReturn_next hu
  exact (h.setCpsr (fun _ => hlegal) fun _ => alignPc_returnPc ..).refill

theorem exchange (h : Micro A s t) (hA : A → t.modeLegal = true) (v : Word) : Micro A s (t.exchange v) := by
  refine (h.fetched.setCpsr (fun ha => ?_) fun _ => alignPc_idem _ _).refill
  rw [State.fetched_cpsr, modeField_putBit _ _ _ (by decide) (by decide)]
  exact hA ha

theorem dpWrite {f : Bool} {rd : Reg} {o : Alu} (h : Micro A s t) (hu : s.dpWrite t f rd o = .next u) : Micro A s u := by
  rcases State.dpWrite_next hu with ⟨-, -, hu⟩ | ⟨-, -, rfl⟩ | ⟨-, rfl⟩
  · exact h.exceptionReturn hu
  · exact (h.branch _).refill
  · exact (Micro.ite (h.aluFlags o) h).setReg rd _

theorem undefinedEncoding (hu : s.undefinedEncoding = .next u) : Micro A s u := by
  rcases State.undefinedEncoding_next hu with rfl | ⟨-, rfl⟩
  · exact refl.fetched
  · exact refl.trap _

theorem load {k : LoadKind} {a : Word} {rd : Reg} {wb : Bool} {rn : Reg} {back : Word} (hu : s.load k a rd wb rn back = .next u) :
    Micro A s u := by
  have h := ((((refl (A := A) (s := s)).charge .data .n (k.width a) (k.addr a)).fetched.internal 1).writeBack wb rn back).setReg rd
    (s.loadValue k a)
  rw [State.load_next hu]
  exact .ite h.refill h

theorem store {k : StoreKind} {a v : Word} {wb : Bool} {rn : Reg} {back : Word} (hu : s.store k a v wb rn back = .next u) :
    Micro A s u := by
  rw [State.store_next hu]
  exact (((refl.charge _ _ _ _).advance.storeValue _ _ _).writeBack _ _ _).nnext

theorem swapAt {k : LoadKind} {w : StoreKind} {a : Word} {rd rm : Reg} (hu : s.swapAt k w a rd rm = .next u) : Micro A s u := by
  rw [State.swapAt_next hu]
  exact ((((refl.charge _ _ _ _).charge _ _ _ _).fetched.internal 1).storeValue _ _ _).setReg _ _

theorem loadBlock {user early : Bool} {start : Word} {rs : List Reg} {wb : Bool} {rn : Reg} {back : Word}
    (hu : s.loadBlock user early start rs wb rn back = .next u) : Micro A s u := by
  have h := ((((refl (A := A) (s := s)).chargeBlock .n (blockPairs start rs)).fetched.internal 1).writeBack wb rn back).loadRegs user
    (blockPairs start rs)
  rw [State.loadBlock_next hu]
  exact .ite h.refill h

theorem loadReturn {start : Word} {rs : List Reg} {wb : Bool} {rn : Reg} {back : Word} (hu : s.loadReturn start rs wb rn back = .next u) :
    Micro A s u :=
  ((((refl.chargeBlock .n _).fetched.internal 1).writeBack wb rn back).loadRegs false _).exceptionReturn (State.accessBlock_next hu)

theorem storeBlock {user early : Bool} {start : Word} {rs : List Reg} {wb : Bool} {rn : Reg} {back : Word}
    (hu : s.storeBlock user early start rs wb rn back = .next u) : Micro A s u := by
  have haligned : ∀ x ∈ s.storedWords user rs wb rn back (blockPairs start rs), alignWord x.1 = x.1 := by
    intro x hx
    obtain ⟨y, hy, rfl⟩ := List.mem_map.1 hx
    rw [blockPairs_eq_zip] at hy
    obtain ⟨k, -, hk⟩ := List.mem_map.1 (List.of_mem_zip hy).2
    rw [← hk]
    exact alignPc_idem false _
  rw [State.storeBlock_next hu]
  exact (((refl.chargeBlock _ _).advance.storeWords haligned).writeBack _ _ _).nnext

theorem mulWrite {f : Bool} {rd : Reg} {r : Word} {n : Nat} (hu : s.mulWrite f rd r n = .next u) : Micro A s u := by
  have h := ((refl (A := A) (s := s)).fetched.internal n).setReg rd r
  cases hu
  exact .ite (h.writeFlags _ _ _ _) h

theorem mullWrite {f : Bool} {hi lo : Reg} {p : DWord} {n : Nat} (hu : s.mullWrite f hi lo p n = .next u) : Micro A s u := by
  have h := (((refl (A := A) (s := s)).fetched.internal n).setReg lo (p.extractLsb' 0 32)).setReg hi (p.extractLsb' 32 32)
  cases hu
  exact .ite (h.writeFlags _ _ _ _) h

theorem thumbWrite {rd : LoReg} {o : Alu} (hu : s.thumbWrite rd o = .next u) : Micro A s u := by
  cases hu
  exact (refl.fetched.aluFlags o).setLo rd _

theorem thumbCompare {o : Alu} (hu : s.thumbCompare o = .next u) : Micro A s u := by
  cases hu
  exact refl.fetched.aluFlags o

theorem thumbShift {ty : ShiftType} {rs rd : LoReg} (hu : s.thumbShift ty rs rd = .next u) : Micro A s u := by
  cases hu
  exact ((refl.fetched.internal 1).aluFlags _).setLo rd _

theorem hiWrite {d : Reg} {v : Word} (hu : s.hiWrite d v = .next u) : Micro A s u := by
  cases hu
  exact .ite (refl.fetched.branch v).refill (refl.fetched.setReg d v)

theorem mrs {c : Cond} {r : Bool} {rd : Reg} (hu : execMrs c r rd s = .next u) : Micro A s u := by
  rcases State.gate_next hu with ⟨-, rfl⟩ | ⟨-, hu⟩
  · exact refl.fetched
  · replace hu := State.guarded_next hu
    split at hu
    · cases hu; exact refl.fetched.setReg rd _
    · cases hu

/-- MSR may change the T bit of an ARM state (R283). -/
theorem msr {r : Bool} {mask : BitVec 4} {v : Word} {cs : List (Bool × Unpred)} (hA : A → alignPc false s.fetched.pc = s.fetched.pc)
    (hu : s.msr r mask v cs = .next u) : Micro A s u := by
  rcases State.msr_next hu with ⟨-, _, -, rfl⟩ | ⟨-, hlegal, rfl⟩
  · exact refl.fetched.setSpsr _
  · refine refl.fetched.setCpsr (a := s.fetched.pc) (fun _ => hlegal) fun ha => ?_
    exact alignPc_of_arm _ (hA ha)

theorem gated {c : Cond} {k : Result} (hu : s.gate c k = .next u) (hk : k = .next u → Micro A s u) : Micro A s u := by
  rcases State.gate_next hu with ⟨-, rfl⟩ | ⟨-, hu⟩
  · exact refl.fetched
  · exact hk hu

/-- A data-processing operation, whatever its operand 2. -/
theorem dataProcessing {c : Cond} {f : Bool} {rd : Reg} {o : Alu} (hu : s.gate c (s.dpWrite s.fetched f rd o) = .next u) : Micro A s u :=
  gated hu fun hu => refl.fetched.dpWrite hu

theorem dpByRegister {c : Cond} {f : Bool} {rd : Reg} {o : Alu} {cs : List (Bool × Unpred)}
    (hu : s.gate c (s.guarded cs (s.dpWrite (s.fetched.internal 1) f rd o)) = .next u) : Micro A s u :=
  gated hu fun hu => (refl.fetched.internal 1).dpWrite (State.guarded_next hu)

end Micro

/-! ## Every instruction -/

/-- A branch target of the 32-bit table is word-aligned. -/
theorem alignPc_branch_arm {v x : Word} (h : alignPc false v = v) : alignPc false (v + 8#32 + (x <<< 2)) = v + 8#32 + (x <<< 2) := by
  have h8 : (8#32).toNat = 8 := rfl
  rw [alignPc_arm] at h ⊢
  simp only [BitVec.toNat_add, BitVec.toNat_shiftLeft, Nat.shiftLeft_eq, h8]
  omega

theorem alignPc_branch_thumb {v x : Word} (h : alignPc true v = v) : alignPc true (v + 4#32 + (x <<< 1)) = v + 4#32 + (x <<< 1) := by
  have h4 : (4#32).toNat = 4 := rfl
  rw [alignPc_thumb] at h ⊢
  simp only [BitVec.toNat_add, BitVec.toNat_shiftLeft, Nat.shiftLeft_eq, h4]
  omega

/-- The state of an instruction's own table, with the invariant: where its branches keep the alignment. -/
def State.Fits (s : State) (i : Instr) : Prop := s.Inv ∧ s.thumb = !i.isArm

namespace State.Fits

variable {s : State} {i : Instr}

theorem thumb (h : s.Fits i) : s.thumb = !i.isArm := h.2

theorem pc (h : s.Fits i) : alignPc (!i.isArm) s.pc = s.pc := h.thumb ▸ h.1.pc

theorem fetched_pc (h : s.Fits i) : alignPc (!i.isArm) s.fetched.pc = s.fetched.pc := by
  rw [← h.thumb, ← State.fetched_thumb]
  exact h.1.fetched.pc

end State.Fits

/-- Whatever an instruction does, it does by the named operations. -/
theorem exec_micro {s t : State} {i : Instr} (h : exec i s = .next t) : Micro (s.Fits i) s t := by
  have h0 : Micro (s.Fits i) s s := .refl
  cases i with
  | mul | mla => exact .gated h fun h => .mulWrite (State.guarded_next h)
  | umull | umlal | smull | smlal => exact .gated h fun h => .mullWrite (State.guarded_next h)
  | swp | swpb => exact .gated h fun h => .swapAt (State.guarded_next h)
  | strhReg | strhImm | strtImm | strtReg | strbtImm | strbtReg | strImm | strReg | strbImm | strbReg =>
    exact .gated h fun h => .store (State.guarded_next h)
  | ldrhReg | ldrhImm | ldrsbReg | ldrsbImm | ldrshReg | ldrshImm | ldrtImm | ldrtReg | ldrbtImm | ldrbtReg | ldrImm | ldrReg | ldrbImm
  | ldrbReg => exact .gated h fun h => .load (State.guarded_next h)
  | mrs => exact .mrs h
  | msrReg | msrImm => exact .gated h (.msr fun hfits => hfits.fetched_pc)
  | bx =>
    refine .gated h fun h => ?_
    cases State.guarded_next h
    exact h0.exchange (fun hfits => hfits.1.mode) _
  | tBx =>
    cases State.guarded_next h
    exact h0.exchange (fun hfits => hfits.1.mode) _
  | undefMul | undefSwp | undefHalfwordStore | undefMisc | undefImmCmp | undefMedia | coprocXfer | coprocOp =>
    exact .gated h .undefinedEncoding
  | andImm | andImmShift | eorImm | eorImmShift | subImm | subImmShift | rsbImm | rsbImmShift | addImm | addImmShift | adcImm | adcImmShift
  | sbcImm | sbcImmShift | rscImm | rscImmShift | orrImm | orrImmShift | movImm | movImmShift | bicImm | bicImmShift | mvnImm
  | mvnImmShift => exact .dataProcessing h
  | andRegShift | eorRegShift | subRegShift | rsbRegShift | addRegShift | adcRegShift | sbcRegShift | rscRegShift | orrRegShift
  | movRegShift | bicRegShift | mvnRegShift => exact .dpByRegister h
  | tstImm | tstImmShift | teqImm | teqImmShift | cmpImm | cmpImmShift | cmnImm | cmnImmShift =>
    exact .gated h fun h => by cases h; exact h0.fetched.aluFlags _
  | tstRegShift | teqRegShift | cmpRegShift | cmnRegShift =>
    exact .gated h fun h => by cases h; exact (h0.fetched.internal 1).aluFlags _
  | ldmRet => exact .gated h fun h => .loadReturn (State.guarded_next h)
  | ldmUser | ldm => exact .gated h fun h => .loadBlock (State.guarded_next h)
  | stmUser | stm => exact .gated h fun h => .storeBlock (State.guarded_next h)
  | b =>
    exact .gated h fun h => by cases h; exact h0.jump fun hfits => hfits.thumb ▸ alignPc_branch_arm hfits.pc
  | bl =>
    refine .gated h fun h => ?_
    cases h
    exact ((h0.fetched.setReg 14 _).setPc fun hfits => by
      rw [State.thumb_congr (State.setReg_cpsr ..), State.fetched_thumb, hfits.thumb]; exact alignPc_branch_arm hfits.pc).refill
  | swi => exact .gated h fun h => by cases h; exact h0.trap _
  | tLslImm | tLsrImm | tAsrImm | tAddReg | tSubReg | tAddImm3 | tSubImm3 | tMovImm | tAddImm8 | tSubImm8 | tAnd | tEor | tAdc | tSbc
  | tNeg | tOrr | tBic | tMvn => exact .thumbWrite h
  | tCmpImm | tTst | tCmp | tCmn => exact .thumbCompare h
  | tLsl | tLsr | tAsr | tRor => exact .thumbShift h
  | tMul => cases h; exact ((h0.fetched.internal _).setLo _ _).writeFlags _ _ _ _
  | tAddHi | tMovHi => exact .hiWrite (State.guarded_next h)
  | tCmpHi => exact .thumbCompare (State.guarded_next h)
  | tLdrPc | tLdsbReg | tLdrReg | tLdrhReg | tLdrbReg | tLdshReg | tLdrImm | tLdrbImm | tLdrhImm | tLdrSp => exact .load h
  | tStrReg | tStrhReg | tStrbReg | tStrImm | tStrbImm | tStrhImm | tStrSp => exact .store h
  | tAddPc | tAddSp => cases h; exact h0.fetched.setLo _ _
  | tAddSpImm => cases h; exact h0.fetched.setReg 13 _
  | tPush | tStmia => exact .storeBlock (State.guarded_next h)
  | tPop | tLdmia => exact .loadBlock (State.guarded_next h)
  | tUndef1011 | tUndefDe | tUndefE8 => exact .undefinedEncoding h
  | tSwi => cases h; exact h0.trap _
  | tBCond => cases h; exact .ite (h0.jump fun hfits => hfits.thumb ▸ alignPc_branch_thumb hfits.pc) h0.fetched
  | tB => cases h; exact h0.jump fun hfits => hfits.thumb ▸ alignPc_branch_thumb hfits.pc
  | tBlHi => cases h; exact h0.fetched.setReg 14 _
  | tBlLo =>
    cases h
    exact ((h0.fetched.setReg 14 _).setPc fun hfits => by
      rw [State.thumb_congr (State.setReg_cpsr ..), State.fetched_thumb, hfits.thumb]; exact alignPc_idem true _).refill

/-! ## Each decoder answers instructions of its own table (30_encoding.md R140) -/

section Tables

variable (c : Cond) (w : Word) (h : Half)

theorem decodeMulSwp_isArm : (decodeMulSwp c w).isArm = true := by
  unfold decodeMulSwp; dsimp only
  repeat' split
  all_goals rfl

theorem decodeHalf_isArm : (decodeHalf c w).isArm = true := by
  unfold decodeHalf; dsimp only
  repeat' split
  all_goals rfl

theorem decodeMisc_isArm : (decodeMisc c w).isArm = true := by
  unfold decodeMisc
  repeat' split
  all_goals rfl

theorem decodeDpImm_isArm : (decodeDpImm c w).isArm = true := by
  unfold decodeDpImm; dsimp only
  repeat' split
  all_goals rfl

theorem decodeDpImmShift_isArm : (decodeDpImmShift c w).isArm = true := by
  unfold decodeDpImmShift; dsimp only
  repeat' split
  all_goals rfl

theorem decodeDpRegShift_isArm : (decodeDpRegShift c w).isArm = true := by
  unfold decodeDpRegShift; dsimp only
  repeat' split
  all_goals rfl

theorem decodeSingleImm_isArm : (decodeSingleImm c w).isArm = true := by
  unfold decodeSingleImm; dsimp only
  repeat' split
  all_goals rfl

theorem decodeSingleReg_isArm : (decodeSingleReg c w).isArm = true := by
  unfold decodeSingleReg; dsimp only
  repeat' split
  all_goals rfl

theorem decodeBlock_isArm : (decodeBlock c w).isArm = true := by
  unfold decodeBlock; dsimp only
  repeat' split
  all_goals rfl

theorem decodeArm_isArm : (decodeArm w).isArm = true := by
  unfold decodeArm; dsimp only
  repeat' split
  case h_1.isTrue => exact decodeMulSwp_isArm _ w
  case h_1.isFalse.isTrue => exact decodeHalf_isArm _ w
  case h_1.isFalse.isFalse.isTrue => exact decodeMisc_isArm _ w
  case h_1.isFalse.isFalse.isFalse.isTrue => exact decodeDpRegShift_isArm _ w
  case h_1.isFalse.isFalse.isFalse.isFalse => exact decodeDpImmShift_isArm _ w
  case h_2.isFalse => exact decodeDpImm_isArm _ w
  case h_3 => exact decodeSingleImm_isArm _ w
  case h_4.isFalse => exact decodeSingleReg_isArm _ w
  case h_5 => exact decodeBlock_isArm _ w
  all_goals rfl

theorem decodeThumbAlu_isArm : (decodeThumbAlu h).isArm = false := by
  unfold decodeThumbAlu; dsimp only
  repeat' split
  all_goals rfl

theorem decodeThumbHi_isArm : (decodeThumbHi h).isArm = false := by
  unfold decodeThumbHi; dsimp only
  repeat' split
  all_goals rfl

theorem decodeThumbRegOffset_isArm : (decodeThumbRegOffset h).isArm = false := by
  unfold decodeThumbRegOffset; dsimp only
  repeat' split
  all_goals rfl

theorem decodeThumb1011_isArm : (decodeThumb1011 h).isArm = false := by
  unfold decodeThumb1011
  repeat' split
  all_goals rfl

theorem decodeThumb_isArm : (decodeThumb h).isArm = false := by
  unfold decodeThumb; dsimp only
  repeat' split
  case h_5.isFalse.isTrue => exact decodeThumbHi_isArm h
  case h_5.isFalse.isFalse => exact decodeThumbAlu_isArm h
  case h_6 => exact decodeThumbRegOffset_isArm h
  case h_12 => exact decodeThumb1011_isArm h
  all_goals rfl

end Tables

/-! ## The step -/

/-- A step that answers a next state has taken an interrupt or run the instruction at the program counter (R580). -/
theorem step_next {s t : State} (h : step s = .next t) :
    (∃ e, s.taken = some e ∧ t = s.takeInputs.interrupt e) ∨ exec s.fetchCode.decode s.takeInputs = .next t := by
  unfold step at h
  split at h
  · cases h
  · split at h
    · rename_i e he
      cases h
      exact .inl ⟨e, he, rfl⟩
    · exact .inr (State.access_next h)

theorem fetchCode_isArm (s : State) : s.fetchCode.decode.isArm = !s.thumb := by
  unfold State.fetchCode
  cases s.thumb with
  | false => exact decodeArm_isArm _
  | true => exact decodeThumb_isArm _

theorem takeInputs_fits {s : State} (h : s.Inv) : s.takeInputs.Fits s.fetchCode.decode :=
  ⟨h.takeInputs, by rw [fetchCode_isArm, Bool.not_not]; rfl⟩

/-- Every step is a run of named operations on the state with its inputs taken. -/
theorem step_micro {s t : State} (h : step s = .next t) : Micro s.Inv s.takeInputs t := by
  rcases step_next h with ⟨e, -, rfl⟩ | h
  · exact ((Micro.refl.charge _ _ _ _).enter e _).refill
  · exact (exec_micro h).mono takeInputs_fits

/-- Settles O52: the invariant holds of the state with the inputs taken, and every named operation keeps it. -/
theorem stepKeepsInv : Obligations.StepKeepsInv := by
  unfold Obligations.StepKeepsInv
  intro s t hs h
  exact (step_micro h).inv hs hs.takeInputs

/-- Settles O54: an instruction reaches memory only through its stores, and a store leaves an address that is no writable place. -/
theorem imagesNeverChange : Obligations.ImagesNeverChange := by
  unfold Obligations.ImagesNeverChange
  intro s t a hm h ha
  exact ((step_micro h).image_kept hm ha).2

/-- Settles O55: the inputs are taken once, before the interrupt or the instruction, and neither takes any. -/
theorem stepFrame : Obligations.StepFrame := by
  unfold Obligations.StepFrame
  intro s t h
  obtain ⟨hcfg, hcode, hdata, hfault, hevents, hcounters, hfiq, hdraws⟩ := (step_micro h).framed
  exact ⟨hcfg, hcode, hdata, hfault, hevents, hcounters, hfiq, hdraws⟩

/-! ## The words of MSR (R282, R283) -/

/-- The bits an MSR writes: the flag byte with mask bit 3, the control byte with mask bit 0 (R282). -/
theorem msrMask_getLsbD (mask : BitVec 4) {j : Nat} (hj : j < 32) :
    (msrMask mask).getLsbD j = (mask.getLsbD 3 && decide (24 ≤ j) || mask.getLsbD 0 && decide (j < 8)) := by
  have hhigh : ∀ k : Fin 32, (0xFF000000#32).getLsbD k.val = decide (24 ≤ k.val) := by decide
  have hlow : ∀ k : Fin 32, (0x000000FF#32).getLsbD k.val = decide (k.val < 8) := by decide
  rw [msrMask, BitVec.getLsbD_or]
  cases mask.getLsbD 3 <;> cases mask.getLsbD 0 <;> simp [hhigh ⟨j, hj⟩, hlow ⟨j, hj⟩]

theorem msrWord_getLsbD (old v : Word) (mask : BitVec 4) (control : Bool) {j : Nat} (hj : j < 32) :
    (msrWord old v mask control).getLsbD j =
      if mask.getLsbD 3 && decide (24 ≤ j) || mask.getLsbD 0 && control && decide (j < 8) then v.getLsbD j else old.getLsbD j := by
  rw [msrWord, BitVec.getLsbD_append, BitVec.getLsbD_append]
  by_cases h8 : j < 8
  · have h24 : ¬ 24 ≤ j := by omega
    cases mask.getLsbD 0 <;> cases control <;> simp [h8, h24]
  · by_cases h24 : 24 ≤ j
    · have h16 : ¬ j - 8 < 16 := by omega
      have hsub : j - 8 - 16 < 8 := by omega
      have hadd : 24 + (j - 8 - 16) = j := by omega
      cases mask.getLsbD 3 <;> simp [h8, h24, h16, hsub, hadd]
    · have h16 : j - 8 < 16 := by omega
      have hadd : 8 + (j - 8) = j := by omega
      simp [h8, h24, h16, hadd]

/-- The masked write of MSR, with or without the control byte, is its word byte by byte (R282, R283). -/
theorem maskedWrite_eq_msrWord (old v : Word) (mask : BitVec 4) (control : Bool) :
    maskedWrite old v (if control then msrMask mask else msrMask mask &&& 0xFF000000#32) = msrWord old v mask control := by
  have hhigh : ∀ k : Fin 32, (0xFF000000#32).getLsbD k.val = decide (24 ≤ k.val) := by decide
  apply BitVec.eq_of_getLsbD_eq
  intro j hj
  have hbits : (if control then msrMask mask else msrMask mask &&& 0xFF000000#32).getLsbD j =
      (mask.getLsbD 3 && decide (24 ≤ j) || mask.getLsbD 0 && control && decide (j < 8)) := by
    cases control with
    | true => rw [if_pos rfl, msrMask_getLsbD mask hj, Bool.and_true]
    | false =>
      rw [if_neg (by decide), BitVec.getLsbD_and, msrMask_getLsbD mask hj, hhigh ⟨j, hj⟩]
      by_cases h24 : 24 ≤ j
      · have h8 : ¬ j < 8 := by omega
        simp [h24, h8]
      · simp [h24]
  rw [msrWord_getLsbD old v mask control hj, maskedWrite, BitVec.getLsbD_or, BitVec.getLsbD_and, BitVec.getLsbD_and, BitVec.getLsbD_not, hbits]
  cases (mask.getLsbD 3 && decide (24 ≤ j) || mask.getLsbD 0 && control && decide (j < 8)) <;> simp [hj]

theorem State.msrCpsr_eq (s : State) (mask : BitVec 4) (v : Word) : s.msrCpsr mask v = msrWord s.cpsr v mask (decide (s.mode ≠ .usr)) := by
  rw [← maskedWrite_eq_msrWord, State.msrCpsr]
  by_cases h : s.mode = .usr
  · simp [h]
  · simp [h]

/-- Without the control byte MSR leaves the mode. -/
theorem modeField_msrWord (old v : Word) (mask : BitVec 4) : modeField (msrWord old v mask false) = modeField old := by
  apply modeField_ext
  intro j hj
  have h24 : ¬ 24 ≤ j := by omega
  rw [msrWord_getLsbD _ _ _ _ (by omega)]
  simp [h24]

/-! ## User mode (60_exceptions.md R551) -/

theorem State.exchange_cpsr (s : State) (v : Word) : (s.exchange v).cpsr = putBit s.cpsr 5 (v.getLsbD 0) := rfl

/-- The state of an exception just entered (R530). -/
theorem entered (u : State) (e : Exc) (ret : Word) :
    (u.enter e ret).refill.mode = e.mode ∧ (u.enter e ret).refill.pc = e.vector ∧ (u.enter e ret).refill.thumb = false ∧
      (u.enter e ret).refill.cpsr.getLsbD 7 = true ∧ (u.enter e ret).refill.spsr.get e.mode = some u.cpsr := by
  refine ⟨?_, rfl, Exc.cpsr_thumb e u.cpsr, Exc.cpsr_i e u.cpsr, ?_⟩
  · rw [State.refill_mode, State.mode, State.enter_cpsr, modeField_excCpsr, Mode.ofBits_bits]; rfl
  · exact (Spsrs.get_set_exc u.spsr e e.mode u.cpsr).trans (if_pos rfl)

/-- Only FIQ and IRQ are taken before a fetch (R545). -/
theorem State.taken_eq {s : State} {e : Exc} (h : s.taken = some e) : e = .fiq ∨ e = .irq := by
  unfold State.taken at h
  split at h
  · cases h; exact .inl rfl
  · split at h
    · cases h; exact .inr rfl
    · cases h

/-- Settles O53: in user mode MSR writes the flags only and there is no SPSR to return with, so only an entry leaves it. -/
theorem userModeLeftByExceptionOnly : Obligations.UserModeLeftByExceptionOnly := by
  unfold Obligations.UserModeLeftByExceptionOnly
  intro s t hs h
  rcases step_next h with ⟨e, he, rfl⟩ | h
  · right
    have hentered := entered (s.takeInputs.charge .code .s s.takeInputs.fw s.takeInputs.pc) e (s.takeInputs.pc + 4)
    rcases State.taken_eq he with rfl | rfl
    · exact ⟨.fiq, 0x0000001C, by simp, hentered⟩
    · exact ⟨.irq, 0x00000018, by simp, hentered⟩
  · have hmode : s.takeInputs.mode = .usr := hs
    cases exec_effect h with
    | confined h => exact .inl (h.mode.trans hs)
    | msrSpsr c mask x v hi ht => exact .inl (ht ▸ hs)
    | msrCpsr c mask x v hi ht =>
      refine .inl ?_
      rw [ht, State.msrCpsr_eq, State.mode]
      simp only [hmode, ne_eq, not_true_eq_false, decide_false, modeField_msrWord]
      exact hs
    | exchange v hi ht =>
      refine .inl ?_
      rw [ht, State.mode, State.exchange_cpsr, modeField_putBit _ _ _ (by decide) (by decide)]
      exact hs
    | trap e hi ht =>
      right
      have hentered := entered s.takeInputs.fetched e (s.takeInputs.pc + s.takeInputs.ilen)
      subst ht
      rcases hi with ⟨rfl, hi⟩ | ⟨rfl, hi⟩
      · exact ⟨.svc, 0x00000008, by simp, hentered⟩
      · exact ⟨.und, 0x00000004, by simp, hentered⟩
    | returned u v a hi hu hv ht => rw [hmode] at hv; cases hv
    | userLoad u c m rn list hi hu hr hs' hc => exact .inl ((State.mode_congr hc).trans (hu.mode.trans hs))

end Sys2Proof.Machine

end EveryStep

/-! # The decoder and the opcode table (30_encoding.md R150, R153, R165) -/

section OpcodeTable

namespace Sys2Proof

/-! ## The first row, from the bits that are known -/

/-- The first row of every word that has the bits `bits` at the places `known`, if those bits decide it: a row that contradicts them is passed
over, and one whose fixed bits are all among them is the answer. -/
def firstKnownRow (known bits : Nat) : List Row → Option String
  | [] => none
  | r :: rs =>
    if bits &&& r.mask ≠ r.code &&& known then firstKnownRow known bits rs
    else if r.mask &&& known = r.mask ∧ bits &&& r.mask = r.code then some r.mnemonic else none

theorem firstRow_of_known {known bits w : Nat} {name : String} (hw : w &&& known = bits) {rs : List Row}
    (h : firstKnownRow known bits rs = some name) : firstRow rs w = some name := by
  induction rs with
  | nil => exact nomatch h
  | cons r rs ih =>
    have hcommon : bits &&& r.mask = w &&& r.mask &&& known := by rw [← hw, Nat.and_right_comm]
    unfold firstKnownRow at h
    unfold firstRow
    split at h
    · next hne =>
      have hno : r.holds w = false := beq_eq_false_iff_ne.mpr fun hr => hne (by rw [hcommon, hr])
      rw [hno]
      exact ih h
    · split at h
      · next hrow =>
        obtain ⟨hmask, hcode⟩ := hrow
        have hyes : r.holds w = true := beq_iff_eq.mpr (by rw [← hcode, hcommon, Nat.and_assoc, hmask])
        rw [hyes]
        exact h
      · exact nomatch h

section Fields

variable {n lo k : Nat} {w : BitVec n}

/-- A field that is known, as bits of the word. -/
theorem land_field {x : BitVec k} (h : w.extractLsb' lo k = x) : w.toNat &&& (2 ^ k - 1) <<< lo = x.toNat <<< lo := by
  rw [← h]
  apply Nat.eq_of_testBit_eq
  intro i
  rw [Nat.testBit_and, Nat.testBit_shiftLeft, Nat.testBit_two_pow_sub_one, Nat.testBit_shiftLeft, BitVec.testBit_toNat, BitVec.testBit_toNat,
    BitVec.getLsbD_extractLsb']
  by_cases hi : lo ≤ i
  · rw [Nat.add_sub_cancel' hi, decide_eq_true hi, Bool.true_and, Bool.true_and, Bool.and_comm]
  · rw [decide_eq_false hi, Bool.false_and, Bool.false_and, Bool.and_false]

theorem land_bit {b : Bool} (h : w.getLsbD k = b) : w.toNat &&& 1 <<< k = b.toNat <<< k := by
  rw [← h]
  apply Nat.eq_of_testBit_eq
  intro i
  rw [Nat.testBit_and, Nat.one_shiftLeft, Nat.testBit_two_pow, BitVec.testBit_toNat, Nat.testBit_shiftLeft, Nat.testBit_bool_toNat]
  by_cases hi : k = i
  · subst hi; simp
  · by_cases hle : k ≤ i
    · have hsub : i - k ≠ 0 := by omega
      simp [hi, hsub]
    · simp [hi, hle]

theorem land_both {w m m' v v' : Nat} (h : w &&& m = v) (h' : w &&& m' = v') : w &&& (m ||| m') = v ||| v' := by
  rw [Nat.and_or_distrib_left, h, h']

end Fields

/-! ## The 32-bit table, decoder by decoder -/

section Arm

variable {c : Cond} {w : Word}

theorem decodeMulSwp_row (h : w.toNat &&& 0xE0000F0 = 0x90) : firstRow armRows w.toNat = some (decodeMulSwp c w).mnemonic := by
  unfold decodeMulSwp
  dsimp only
  cases h24 : w.getLsbD 24 with
  | false =>
    generalize hop : w.extractLsb' 21 3 = op
    have hw := land_both h (land_both (land_bit h24) (land_field hop))
    obtain ⟨i⟩ := op
    fin_cases i
    all_goals exact firstRow_of_known hw rfl
  | true =>
    generalize hop : w.extractLsb' 20 4 = op
    have hw := land_both h (land_both (land_bit h24) (land_field hop))
    obtain ⟨i⟩ := op
    fin_cases i
    all_goals exact firstRow_of_known hw rfl

/-- `lo ≠ 1001` leaves out the shift type 00. -/
theorem decodeHalf_row (h : w.toNat &&& 0xE000090 = 0x90) (hsh : w.extractLsb' 5 2 ≠ 0#2) :
    firstRow armRows w.toNat = some (decodeHalf c w).mnemonic := by
  unfold decodeHalf
  dsimp only
  generalize hsh' : w.extractLsb' 5 2 = sh at hsh ⊢
  cases hl : w.getLsbD 20 <;> cases hi : w.getLsbD 22
  all_goals
    have hw := land_both h (land_both (land_field hsh') (land_both (land_bit hl) (land_bit hi)))
    obtain ⟨i⟩ := sh
    fin_cases i
  any_goals exact absurd rfl hsh
  all_goals exact firstRow_of_known hw rfl

theorem decodeMisc_row (h : w.toNat &&& 0xF900000 = 0x1000000) (hlo : (w.extractLsb' 4 4 &&& 9#4) ≠ 9#4) :
    firstRow armRows w.toNat = some (decodeMisc c w).mnemonic := by
  unfold decodeMisc
  generalize hlo' : w.extractLsb' 4 4 = lo at hlo ⊢
  generalize hop : w.extractLsb' 21 2 = op
  have hw := land_both h (land_both (land_field hlo') (land_field hop))
  have h21 : w.getLsbD 21 = op.getLsbD 0 := by rw [← hop, BitVec.getLsbD_extractLsb']; rfl
  rw [h21]
  obtain ⟨i⟩ := lo
  obtain ⟨j⟩ := op
  fin_cases i <;> fin_cases j
  any_goals exact absurd rfl hlo
  all_goals exact firstRow_of_known hw rfl

/-- The opcodes 10xx with S = 0 are no data processing. -/
theorem opcode_not_misc (h : ¬ (w.extractLsb' 23 2 = 2#2 ∧ w.getLsbD 20 = false)) :
    ¬ ((w.extractLsb' 21 4).extractLsb' 2 2 = 2#2 ∧ w.getLsbD 20 = false) := by
  have hfield : (w.extractLsb' 21 4).extractLsb' 2 2 = w.extractLsb' 23 2 := by
    apply BitVec.eq_of_getLsbD_eq
    intro j hj
    have hj4 : 2 + j < 4 := by omega
    simp only [BitVec.getLsbD_extractLsb', hj, hj4, decide_true, Bool.true_and, ← Nat.add_assoc]
  rwa [hfield]

theorem decodeDpImm_row (h : w.toNat &&& 0xE000000 = 0x2000000) (hcmp : ¬ (w.extractLsb' 23 2 = 2#2 ∧ w.getLsbD 20 = false)) :
    firstRow armRows w.toNat = some (decodeDpImm c w).mnemonic := by
  replace hcmp := opcode_not_misc hcmp
  unfold decodeDpImm
  dsimp only
  generalize hop : w.extractLsb' 21 4 = op at hcmp ⊢
  generalize hs : w.getLsbD 20 = s at hcmp ⊢
  have hw := land_both h (land_both (land_field hop) (land_bit hs))
  obtain ⟨i⟩ := op
  cases s <;> fin_cases i
  any_goals exact absurd (And.intro rfl rfl) hcmp
  all_goals exact firstRow_of_known hw rfl

theorem decodeDpImmShift_row (h : w.toNat &&& 0xE000010 = 0) (hcmp : ¬ (w.extractLsb' 23 2 = 2#2 ∧ w.getLsbD 20 = false)) :
    firstRow armRows w.toNat = some (decodeDpImmShift c w).mnemonic := by
  replace hcmp := opcode_not_misc hcmp
  unfold decodeDpImmShift
  dsimp only
  generalize hop : w.extractLsb' 21 4 = op at hcmp ⊢
  generalize hs : w.getLsbD 20 = s at hcmp ⊢
  have hw := land_both h (land_both (land_field hop) (land_bit hs))
  obtain ⟨i⟩ := op
  cases s <;> fin_cases i
  any_goals exact absurd (And.intro rfl rfl) hcmp
  all_goals exact firstRow_of_known hw rfl

theorem decodeDpRegShift_row (h : w.toNat &&& 0xE000090 = 0x10) (hcmp : ¬ (w.extractLsb' 23 2 = 2#2 ∧ w.getLsbD 20 = false)) :
    firstRow armRows w.toNat = some (decodeDpRegShift c w).mnemonic := by
  replace hcmp := opcode_not_misc hcmp
  unfold decodeDpRegShift
  dsimp only
  generalize hop : w.extractLsb' 21 4 = op at hcmp ⊢
  generalize hs : w.getLsbD 20 = s at hcmp ⊢
  have hw := land_both h (land_both (land_field hop) (land_bit hs))
  obtain ⟨i⟩ := op
  cases s <;> fin_cases i
  any_goals exact absurd (And.intro rfl rfl) hcmp
  all_goals exact firstRow_of_known hw rfl

theorem decodeSingleImm_row (h : w.toNat &&& 0xE000000 = 0x4000000) : firstRow armRows w.toNat = some (decodeSingleImm c w).mnemonic := by
  obtain ⟨p, hp⟩ := exists_eq' (a' := w.getLsbD 24)
  obtain ⟨wb, hwb⟩ := exists_eq' (a' := w.getLsbD 21)
  obtain ⟨l, hl⟩ := exists_eq' (a' := w.getLsbD 20)
  obtain ⟨b, hb⟩ := exists_eq' (a' := w.getLsbD 22)
  simp only [decodeSingleImm, idxField, hp, hwb, hl, hb]
  cases p <;> cases wb <;> cases l <;> cases b
  all_goals
    exact firstRow_of_known (land_both h (land_both (land_both (land_bit hp) (land_bit hwb)) (land_both (land_bit hl) (land_bit hb)))) rfl

theorem decodeSingleReg_row (h : w.toNat &&& 0xE000010 = 0x6000000) : firstRow armRows w.toNat = some (decodeSingleReg c w).mnemonic := by
  obtain ⟨p, hp⟩ := exists_eq' (a' := w.getLsbD 24)
  obtain ⟨wb, hwb⟩ := exists_eq' (a' := w.getLsbD 21)
  obtain ⟨l, hl⟩ := exists_eq' (a' := w.getLsbD 20)
  obtain ⟨b, hb⟩ := exists_eq' (a' := w.getLsbD 22)
  simp only [decodeSingleReg, idxField, hp, hwb, hl, hb]
  cases p <;> cases wb <;> cases l <;> cases b
  all_goals
    exact firstRow_of_known (land_both h (land_both (land_both (land_bit hp) (land_bit hwb)) (land_both (land_bit hl) (land_bit hb)))) rfl

theorem decodeBlock_row (h : w.toNat &&& 0xE000000 = 0x8000000) : firstRow armRows w.toNat = some (decodeBlock c w).mnemonic := by
  unfold decodeBlock
  dsimp only
  cases hl : w.getLsbD 20 <;> cases hs : w.getLsbD 22 <;> cases h15 : w.getLsbD 15
  all_goals exact firstRow_of_known (land_both h (land_both (land_bit hl) (land_both (land_bit hs) (land_bit h15)))) rfl

/-- Bits 7:4 that are not 1001, where bits 7 and 4 are set. -/
theorem shift_ne_zero (h9 : w.extractLsb' 4 4 ≠ 9#4) (h7 : w.getLsbD 7 = true) (h4 : w.getLsbD 4 = true) : w.extractLsb' 5 2 ≠ 0#2 := by
  intro h0
  have h5 : w.getLsbD 5 = false := by simpa using congrArg (·.getLsbD 0) h0
  have h6 : w.getLsbD 6 = false := by simpa using congrArg (·.getLsbD 1) h0
  apply h9
  apply BitVec.eq_of_getLsbD_eq
  intro j hj
  rw [BitVec.getLsbD_extractLsb', decide_eq_true hj, Bool.true_and]
  interval_cases j
  exacts [h4, h5, h6, h7]

theorem low_not_nine (h : ¬ (w.getLsbD 7 && w.getLsbD 4) = true) : (w.extractLsb' 4 4 &&& 9#4) ≠ 9#4 := by
  intro h9
  have h4 : w.getLsbD 4 = true := by simpa using congrArg (·.getLsbD 0) h9
  have h7 : w.getLsbD 7 = true := by simpa using congrArg (·.getLsbD 3) h9
  exact h (by rw [h4, h7]; rfl)

/-- `hi[7:5] = 000`. -/
theorem decodeArm_row_000 (h : w.extractLsb' 25 3 = 0#3) : firstRow armRows w.toNat = some (decodeArm w).mnemonic := by
  have hw := land_field h
  simp only [decodeArm, h]
  split
  · next h9 => exact decodeMulSwp_row (land_both hw (land_field h9))
  next h9 =>
  split
  · next h74 =>
    obtain ⟨h7, h4⟩ := Bool.and_eq_true_iff.mp h74
    exact decodeHalf_row (land_both hw (land_both (land_bit h7) (land_bit h4))) (shift_ne_zero h9 h7 h4)
  next h74 =>
  split
  · next hcmp =>
    obtain ⟨h23, h20⟩ := hcmp
    exact decodeMisc_row (land_both hw (land_both (land_field h23) (land_bit h20))) (low_not_nine h74)
  next hcmp =>
  split
  · next h4 =>
    have h7 : w.getLsbD 7 = false := Bool.eq_false_iff.mpr fun h7 => h74 (by rw [h7, h4]; rfl)
    exact decodeDpRegShift_row (land_both hw (land_both (land_bit h7) (land_bit h4))) hcmp
  · next h4 => exact decodeDpImmShift_row (land_both hw (land_bit (Bool.eq_false_iff.mpr h4))) hcmp

/-- `hi[7:5] = 001`. -/
theorem decodeArm_row_001 (h : w.extractLsb' 25 3 = 1#3) : firstRow armRows w.toNat = some (decodeArm w).mnemonic := by
  have hw := land_field h
  simp only [decodeArm, h]
  split
  · next hcmp =>
    obtain ⟨h23, h20⟩ := hcmp
    split
    · next h21 => exact firstRow_of_known (land_both hw (land_both (land_both (land_field h23) (land_bit h20)) (land_bit h21))) rfl
    · next h21 =>
      have h21' : w.getLsbD 21 = false := Bool.eq_false_iff.mpr h21
      exact firstRow_of_known (land_both hw (land_both (land_both (land_field h23) (land_bit h20)) (land_bit h21'))) rfl
  · next hcmp => exact decodeDpImm_row hw hcmp

/-- `hi[7:5]` 011, 101 and 111: one bit chooses between two rows. -/
theorem decodeArm_row_byBit (h : w.extractLsb' 25 3 = 3#3 ∨ w.extractLsb' 25 3 = 5#3 ∨ w.extractLsb' 25 3 = 7#3) :
    firstRow armRows w.toNat = some (decodeArm w).mnemonic := by
  generalize h4 : w.getLsbD 4 = b4
  generalize h24 : w.getLsbD 24 = b24
  rcases h with h | h | h
  all_goals
    have hw := land_field h
    simp only [decodeArm, h, h4, h24]
  · cases b4
    · exact decodeSingleReg_row (land_both hw (land_bit h4))
    · exact firstRow_of_known (land_both hw (land_bit h4)) rfl
  all_goals
    cases b24
    all_goals exact firstRow_of_known (land_both hw (land_bit h24)) rfl

theorem decodeArm_row (w : Word) : firstRow armRows w.toNat = some (decodeArm w).mnemonic := by
  generalize hhi : w.extractLsb' 25 3 = hi
  obtain ⟨i⟩ := hi
  have hw := land_field hhi
  fin_cases i
  · exact decodeArm_row_000 hhi
  · exact decodeArm_row_001 hhi
  · simp only [decodeArm, hhi]
    exact decodeSingleImm_row hw
  · exact decodeArm_row_byBit (.inl hhi)
  · simp only [decodeArm, hhi]
    exact decodeBlock_row hw
  · exact decodeArm_row_byBit (.inr (.inl hhi))
  · simp only [decodeArm, hhi]
    exact firstRow_of_known hw rfl
  · exact decodeArm_row_byBit (.inr (.inr hhi))

end Arm

/-! ## The 16-bit table -/

section Thumb

variable {h : Half}

theorem decodeThumbAlu_row (hh : h.toNat &&& 0xFC00 = 0x4000) : firstRow thumbRows h.toNat = some (decodeThumbAlu h).mnemonic := by
  unfold decodeThumbAlu
  dsimp only
  generalize hop : h.extractLsb' 6 4 = op
  have hw := land_both hh (land_field hop)
  obtain ⟨i⟩ := op
  fin_cases i
  all_goals exact firstRow_of_known hw rfl

theorem decodeThumbHi_row (hh : h.toNat &&& 0xFC00 = 0x4400) : firstRow thumbRows h.toNat = some (decodeThumbHi h).mnemonic := by
  unfold decodeThumbHi
  dsimp only
  generalize hop : h.extractLsb' 8 2 = op
  have hw := land_both hh (land_field hop)
  obtain ⟨i⟩ := op
  fin_cases i
  all_goals exact firstRow_of_known hw rfl

theorem decodeThumbRegOffset_row (hh : h.toNat &&& 0xF000 = 0x5000) : firstRow thumbRows h.toNat = some (decodeThumbRegOffset h).mnemonic := by
  unfold decodeThumbRegOffset
  dsimp only
  generalize hop : h.extractLsb' 9 3 = op
  have hw := land_both hh (land_field hop)
  obtain ⟨i⟩ := op
  fin_cases i
  all_goals exact firstRow_of_known hw rfl

theorem decodeThumb1011_row (hh : h.toNat &&& 0xF000 = 0xB000) : firstRow thumbRows h.toNat = some (decodeThumb1011 h).mnemonic := by
  generalize hop : h.extractLsb' 8 4 = op
  have hw := land_both hh (land_field hop)
  have hpp : h.extractLsb' 9 2 = op.extractLsb' 1 2 := by
    rw [← hop]
    apply BitVec.eq_of_getLsbD_eq
    intro j hj
    have hj4 : 1 + j < 4 := by omega
    simp only [BitVec.getLsbD_extractLsb', hj, hj4, decide_true, Bool.true_and, ← Nat.add_assoc]
  have h11 : h.getLsbD 11 = op.getLsbD 3 := by rw [← hop, BitVec.getLsbD_extractLsb']; rfl
  rw [decodeThumb1011, hop, hpp, h11]
  obtain ⟨i⟩ := op
  fin_cases i
  all_goals exact firstRow_of_known hw rfl

theorem decodeThumb_row_0001 (ha : h.extractLsb' 12 4 = 1#4) : firstRow thumbRows h.toNat = some (decodeThumb h).mnemonic := by
  generalize hb : h.getLsbD 11 = b
  generalize hop : h.extractLsb' 9 2 = op
  have hw := land_both (land_field ha) (land_bit hb)
  simp only [decodeThumb, ha, hb, hop]
  cases b
  · exact firstRow_of_known hw rfl
  · obtain ⟨i⟩ := op
    fin_cases i
    all_goals exact firstRow_of_known (land_both hw (land_field hop)) rfl

theorem decodeThumb_row_0100 (ha : h.extractLsb' 12 4 = 4#4) : firstRow thumbRows h.toNat = some (decodeThumb h).mnemonic := by
  generalize hb : h.getLsbD 11 = b
  generalize hb' : h.getLsbD 10 = b'
  have hw := land_both (land_field ha) (land_bit hb)
  simp only [decodeThumb, ha, hb, hb']
  cases b
  · cases b'
    · exact decodeThumbAlu_row (land_both hw (land_bit hb'))
    · exact decodeThumbHi_row (land_both hw (land_bit hb'))
  · exact firstRow_of_known hw rfl

theorem decodeThumb_row_1101 (ha : h.extractLsb' 12 4 = 13#4) : firstRow thumbRows h.toNat = some (decodeThumb h).mnemonic := by
  generalize hop : h.extractLsb' 8 4 = op
  have hw := land_both (land_field ha) (land_field hop)
  simp only [decodeThumb, ha, hop]
  obtain ⟨i⟩ := op
  fin_cases i
  all_goals exact firstRow_of_known hw rfl

/-- The rest of the table: bits 15:12 and bit 11 choose the row. -/
theorem decodeThumb_row_byBit {a : BitVec 4} (ha : h.extractLsb' 12 4 = a) (hrest : [1#4, 4#4, 5#4, 11#4, 13#4].contains a = false) :
    firstRow thumbRows h.toNat = some (decodeThumb h).mnemonic := by
  generalize hb : h.getLsbD 11 = b
  have hw := land_both (land_field ha) (land_bit hb)
  obtain ⟨i⟩ := a
  fin_cases i <;> cases b
  any_goals contradiction
  all_goals
    simp only [decodeThumb, ha, hb]
    exact firstRow_of_known hw rfl

theorem decodeThumb_row (h : Half) : firstRow thumbRows h.toNat = some (decodeThumb h).mnemonic := by
  generalize ha : h.extractLsb' 12 4 = a
  by_cases h1 : a = 1#4
  · exact decodeThumb_row_0001 (ha.trans h1)
  by_cases h4 : a = 4#4
  · exact decodeThumb_row_0100 (ha.trans h4)
  by_cases h5 : a = 5#4
  · subst h5
    simp only [decodeThumb, ha]
    exact decodeThumbRegOffset_row (land_field ha)
  by_cases h11 : a = 11#4
  · subst h11
    simp only [decodeThumb, ha]
    exact decodeThumb1011_row (land_field ha)
  by_cases h13 : a = 13#4
  · exact decodeThumb_row_1101 (ha.trans h13)
  exact decodeThumb_row_byBit ha (by simp [h1, h4, h5, h11, h13])

end Thumb

/-- Settles O51: each branch of the decoder knows the bits that decide the row. -/
theorem decoderFollowsTable : Obligations.DecoderFollowsTable := ⟨decodeArm_row, decodeThumb_row⟩

end Sys2Proof
end OpcodeTable

/-! # The encoder and the decoder (30_encoding.md R142, R150, R155, R165) -/

section EncodeDecode

namespace Sys2Proof

/-! ## A field of a code: what lies at its place, and nothing else -/

/-- A field in a code of `W` bits: `at32` and `at16` for every width. -/
def placed {n : Nat} (W : Nat) (x : BitVec n) (lo : Nat) : BitVec W := x.setWidth W <<< lo

section Fields

variable {W n k lo lo' i : Nat} {x : BitVec n}

theorem at32_eq_placed (x : BitVec n) (lo : Nat) : at32 x lo = placed 32 x lo := rfl

theorem at16_eq_placed (x : BitVec n) (lo : Nat) : at16 x lo = placed 16 x lo := rfl

theorem getLsbD_placed : (placed W x lo).getLsbD i = (decide (i < W) && decide (lo ≤ i) && x.getLsbD (i - lo)) := by
  rw [placed, BitVec.getLsbD_shiftLeft, BitVec.getLsbD_setWidth]
  by_cases hi : i < W
  · have hsub : i - lo < W := by omega
    by_cases hlo : lo ≤ i
    · simp [hi, hlo, hsub]
    · simp [hi, hlo]
  · simp [hi]

theorem placed_field (h : lo + n ≤ W) : (placed W x lo).extractLsb' lo n = x := by
  apply BitVec.eq_of_getLsbD_eq
  intro j hj
  have hW : lo + j < W := by omega
  simp only [BitVec.getLsbD_extractLsb', getLsbD_placed, hj, hW, Nat.le_add_right, decide_true, Bool.true_and, Nat.add_sub_cancel_left]

theorem placed_field_within (hlo : lo ≤ lo') (hn : lo' + k ≤ lo + n) (h : lo + n ≤ W) :
    (placed W x lo).extractLsb' lo' k = x.extractLsb' (lo' - lo) k := by
  apply BitVec.eq_of_getLsbD_eq
  intro j hj
  have hW : lo' + j < W := by omega
  have hlo'' : lo ≤ lo' + j := by omega
  simp only [BitVec.getLsbD_extractLsb', getLsbD_placed, hj, hW, hlo'', decide_true, Bool.true_and, Nat.sub_add_comm hlo]

theorem placed_field_above (h : lo + n ≤ lo') : (placed W x lo).extractLsb' lo' k = 0#k := by
  apply BitVec.eq_of_getLsbD_eq
  intro j hj
  have hx : x.getLsbD (lo' + j - lo) = false := BitVec.getLsbD_of_ge _ _ (by omega)
  simp [BitVec.getLsbD_extractLsb', getLsbD_placed, hx]

theorem placed_field_below (h : lo' + k ≤ lo) : (placed W x lo).extractLsb' lo' k = 0#k := by
  apply BitVec.eq_of_getLsbD_eq
  intro j hj
  have hlo : ¬ lo ≤ lo' + j := by omega
  simp [BitVec.getLsbD_extractLsb', getLsbD_placed, hlo]

theorem placed_bit (hlo : lo ≤ i) (hn : i < lo + n) (h : lo + n ≤ W) : (placed W x lo).getLsbD i = x.getLsbD (i - lo) := by
  have hi : i < W := by omega
  simp only [getLsbD_placed, hlo, hi, decide_true, Bool.true_and]

theorem placed_bit_above (h : lo + n ≤ i) : (placed W x lo).getLsbD i = false := by
  have hx : x.getLsbD (i - lo) = false := BitVec.getLsbD_of_ge _ _ (by omega)
  simp [getLsbD_placed, hx]

theorem placed_bit_below (h : i < lo) : (placed W x lo).getLsbD i = false := by
  simp [getLsbD_placed, h]

end Fields

theorem bit_getLsbD (b : Bool) : (bit b).getLsbD 0 = b := by cases b <;> rfl

theorem one_getLsbD : (1#1).getLsbD 0 = true := rfl

theorem Cond.ofBits_bits (c : Cond) : Cond.ofBits c.bits = c := by cases c <;> rfl

theorem ShiftType.ofBits_bits (t : ShiftType) : ShiftType.ofBits t.bits = t := by cases t <;> rfl

theorem regBits_toFin (r : Reg) : (regBits r).toFin = r := rfl

theorem lowBits_toFin (r : LoReg) : (lowBits r).toFin = r := rfl

section ArmFormats

variable (c : Cond) (s l : Bool) (op : BitVec 4) (r16 r12 r8 r0 : Reg) (m : Idx)

theorem encDpImm_fields (o : RotImm) :
    (encDpImm c op s r16 r12 o).extractLsb' 28 4 = c.bits ∧ (encDpImm c op s r16 r12 o).extractLsb' 25 3 = 1#3 ∧
    (encDpImm c op s r16 r12 o).extractLsb' 21 4 = op ∧ (encDpImm c op s r16 r12 o).extractLsb' 23 2 = op.extractLsb' 2 2 ∧
    (encDpImm c op s r16 r12 o).getLsbD 20 = s ∧ regField (encDpImm c op s r16 r12 o) 16 = r16 ∧
    regField (encDpImm c op s r16 r12 o) 12 = r12 ∧ rotImmField (encDpImm c op s r16 r12 o) = o := by
  simp (disch := decide) only [encDpImm, rotImmField, regField, at32_eq_placed, regBits_toFin, BitVec.extractLsb'_or, BitVec.getLsbD_or,
    placed_field, placed_field_within, placed_field_above, placed_field_below, placed_bit, placed_bit_above, placed_bit_below,
    BitVec.or_zero, BitVec.zero_or, Bool.false_or, Bool.or_false, Nat.sub_self, bit_getLsbD, and_self]

theorem encDpImmShift_fields (o : ImmShift) :
    (encDpImmShift c op s r16 r12 o).extractLsb' 28 4 = c.bits ∧ (encDpImmShift c op s r16 r12 o).extractLsb' 25 3 = 0#3 ∧
    (encDpImmShift c op s r16 r12 o).extractLsb' 21 4 = op ∧ (encDpImmShift c op s r16 r12 o).extractLsb' 23 2 = op.extractLsb' 2 2 ∧
    (encDpImmShift c op s r16 r12 o).getLsbD 20 = s ∧ regField (encDpImmShift c op s r16 r12 o) 16 = r16 ∧
    regField (encDpImmShift c op s r16 r12 o) 12 = r12 ∧ (encDpImmShift c op s r16 r12 o).getLsbD 4 = false ∧
    immShiftField (encDpImmShift c op s r16 r12 o) = o := by
  simp (disch := decide) only [encDpImmShift, immShiftField, ShiftType.ofBits_bits, regField, at32_eq_placed, regBits_toFin,
    BitVec.extractLsb'_or, BitVec.getLsbD_or, placed_field, placed_field_within, placed_field_above, placed_field_below, placed_bit,
    placed_bit_above, placed_bit_below, BitVec.or_zero, BitVec.zero_or, Bool.false_or, Bool.or_false, Nat.sub_self, bit_getLsbD,
    and_self]

theorem encDpRegShift_fields (o : RegShift) :
    (encDpRegShift c op s r16 r12 o).extractLsb' 28 4 = c.bits ∧ (encDpRegShift c op s r16 r12 o).extractLsb' 25 3 = 0#3 ∧
    (encDpRegShift c op s r16 r12 o).extractLsb' 21 4 = op ∧ (encDpRegShift c op s r16 r12 o).extractLsb' 23 2 = op.extractLsb' 2 2 ∧
    (encDpRegShift c op s r16 r12 o).getLsbD 20 = s ∧ regField (encDpRegShift c op s r16 r12 o) 16 = r16 ∧
    regField (encDpRegShift c op s r16 r12 o) 12 = r12 ∧ (encDpRegShift c op s r16 r12 o).getLsbD 4 = true ∧
    (encDpRegShift c op s r16 r12 o).getLsbD 7 = false ∧ regShiftField (encDpRegShift c op s r16 r12 o) = o := by
  simp (disch := decide) only [encDpRegShift, regShiftField, ShiftType.ofBits_bits, regField, at32_eq_placed, regBits_toFin,
    BitVec.extractLsb'_or, BitVec.getLsbD_or, placed_field, placed_field_within, placed_field_above, placed_field_below, placed_bit,
    placed_bit_above, placed_bit_below, BitVec.or_zero, BitVec.zero_or, Bool.false_or, Bool.or_false, Nat.sub_self, bit_getLsbD,
    one_getLsbD, and_self]

theorem encMul_fields (op : BitVec 7) :
    (encMul c op s r16 r12 r8 r0).extractLsb' 28 4 = c.bits ∧ (encMul c op s r16 r12 r8 r0).extractLsb' 25 3 = op.extractLsb' 4 3 ∧
    (encMul c op s r16 r12 r8 r0).extractLsb' 4 4 = 9#4 ∧ (encMul c op s r16 r12 r8 r0).getLsbD 24 = op.getLsbD 3 ∧
    (encMul c op s r16 r12 r8 r0).extractLsb' 21 3 = op.extractLsb' 0 3 ∧ (encMul c op s r16 r12 r8 r0).getLsbD 20 = s ∧
    regField (encMul c op s r16 r12 r8 r0) 16 = r16 ∧ regField (encMul c op s r16 r12 r8 r0) 12 = r12 ∧
    regField (encMul c op s r16 r12 r8 r0) 8 = r8 ∧ regField (encMul c op s r16 r12 r8 r0) 0 = r0 := by
  simp (disch := decide) only [encMul, regField, at32_eq_placed, regBits_toFin, BitVec.extractLsb'_or, BitVec.getLsbD_or, placed_field,
    placed_field_within, placed_field_above, placed_field_below, placed_bit, placed_bit_above, placed_bit_below, BitVec.or_zero,
    BitVec.zero_or, Bool.false_or, Bool.or_false, Nat.sub_self, bit_getLsbD, and_self]

theorem encHalf_fields (i : Bool) (sh : BitVec 2) (b11 b3 : BitVec 4) :
    (encHalf c m i l r16 r12 sh b11 b3).extractLsb' 28 4 = c.bits ∧ (encHalf c m i l r16 r12 sh b11 b3).extractLsb' 25 3 = 0#3 ∧
    (encHalf c m i l r16 r12 sh b11 b3).extractLsb' 5 2 = sh ∧ (encHalf c m i l r16 r12 sh b11 b3).getLsbD 4 = true ∧
    (encHalf c m i l r16 r12 sh b11 b3).getLsbD 7 = true ∧ (encHalf c m i l r16 r12 sh b11 b3).getLsbD 22 = i ∧
    (encHalf c m i l r16 r12 sh b11 b3).getLsbD 20 = l ∧ regField (encHalf c m i l r16 r12 sh b11 b3) 16 = r16 ∧
    regField (encHalf c m i l r16 r12 sh b11 b3) 0 = b3.toFin ∧
    regField (encHalf c m i l r16 r12 sh b11 b3) 12 = r12 ∧ (encHalf c m i l r16 r12 sh b11 b3).extractLsb' 8 4 = b11 ∧
    (encHalf c m i l r16 r12 sh b11 b3).extractLsb' 0 4 = b3 ∧ idxField (encHalf c m i l r16 r12 sh b11 b3) = m := by
  simp (disch := decide) only [encHalf, encIdx, idxField, regField, at32_eq_placed, regBits_toFin, BitVec.extractLsb'_or,
    BitVec.getLsbD_or, placed_field, placed_field_above, placed_field_below, placed_bit, placed_bit_above, placed_bit_below,
    BitVec.or_zero, BitVec.zero_or, Bool.false_or, Bool.or_false, Nat.sub_self, bit_getLsbD, one_getLsbD, and_self]

theorem encSingleImm_fields (off : BitVec 12) :
    (encSingleImm c m s l r16 r12 off).extractLsb' 28 4 = c.bits ∧ (encSingleImm c m s l r16 r12 off).extractLsb' 25 3 = 2#3 ∧
    (encSingleImm c m s l r16 r12 off).getLsbD 22 = s ∧ (encSingleImm c m s l r16 r12 off).getLsbD 20 = l ∧
    regField (encSingleImm c m s l r16 r12 off) 16 = r16 ∧ regField (encSingleImm c m s l r16 r12 off) 12 = r12 ∧
    idxField (encSingleImm c m s l r16 r12 off) = m ∧ (encSingleImm c m s l r16 r12 off).extractLsb' 0 12 = off := by
  simp (disch := decide) only [encSingleImm, encIdx, idxField, regField, at32_eq_placed, regBits_toFin, BitVec.extractLsb'_or,
    BitVec.getLsbD_or, placed_field, placed_field_above, placed_field_below, placed_bit, placed_bit_above, placed_bit_below,
    BitVec.or_zero, BitVec.zero_or, Bool.false_or, Bool.or_false, Nat.sub_self, bit_getLsbD, and_self]

theorem encSingleReg_fields (o : ImmShift) :
    (encSingleReg c m s l r16 r12 o).extractLsb' 28 4 = c.bits ∧ (encSingleReg c m s l r16 r12 o).extractLsb' 25 3 = 3#3 ∧
    (encSingleReg c m s l r16 r12 o).getLsbD 22 = s ∧ (encSingleReg c m s l r16 r12 o).getLsbD 20 = l ∧
    regField (encSingleReg c m s l r16 r12 o) 16 = r16 ∧ regField (encSingleReg c m s l r16 r12 o) 12 = r12 ∧
    idxField (encSingleReg c m s l r16 r12 o) = m ∧ (encSingleReg c m s l r16 r12 o).getLsbD 4 = false ∧
    immShiftField (encSingleReg c m s l r16 r12 o) = o := by
  simp (disch := decide) only [encSingleReg, encIdx, idxField, immShiftField, ShiftType.ofBits_bits, regField, at32_eq_placed,
    regBits_toFin, BitVec.extractLsb'_or, BitVec.getLsbD_or, placed_field, placed_field_above, placed_field_below, placed_bit,
    placed_bit_above, placed_bit_below, BitVec.or_zero, BitVec.zero_or, Bool.false_or, Bool.or_false, Nat.sub_self, bit_getLsbD,
    and_self]

theorem encBlock_fields (list : BitVec 16) :
    (encBlock c m s l r16 list).extractLsb' 28 4 = c.bits ∧ (encBlock c m s l r16 list).extractLsb' 25 3 = 4#3 ∧
    (encBlock c m s l r16 list).getLsbD 22 = s ∧ (encBlock c m s l r16 list).getLsbD 20 = l ∧
    (encBlock c m s l r16 list).getLsbD 15 = list.getLsbD 15 ∧ regField (encBlock c m s l r16 list) 16 = r16 ∧
    (encBlock c m s l r16 list).extractLsb' 0 16 = list ∧ idxField (encBlock c m s l r16 list) = m := by
  simp (disch := decide) only [encBlock, encIdx, idxField, regField, at32_eq_placed, regBits_toFin, BitVec.extractLsb'_or,
    BitVec.getLsbD_or, placed_field, placed_field_above, placed_field_below, placed_bit, placed_bit_above, placed_bit_below,
    BitVec.or_zero, BitVec.zero_or, Bool.false_or, Bool.or_false, Nat.sub_self, bit_getLsbD, and_self]

/-! ## The branch of the decoder each format reaches -/

variable {w : Word}

theorem low_ne_nine_of_shift (h : w.extractLsb' 5 2 ≠ 0#2) : w.extractLsb' 4 4 ≠ 9#4 := by
  intro h9
  have h5 : w.getLsbD 5 = false := by simpa using congrArg (·.getLsbD 1) h9
  have h6 : w.getLsbD 6 = false := by simpa using congrArg (·.getLsbD 2) h9
  apply h
  apply BitVec.eq_of_getLsbD_eq
  intro j hj
  rw [BitVec.getLsbD_extractLsb', decide_eq_true hj, Bool.true_and]
  interval_cases j
  exacts [h5, h6]

theorem low_ne_nine_of_bit4 (h : w.getLsbD 4 = false) : w.extractLsb' 4 4 ≠ 9#4 := by
  intro h9
  have h4 : w.getLsbD 4 = true := by simpa using congrArg (·.getLsbD 0) h9
  exact absurd (h.symm.trans h4) Bool.false_ne_true

theorem low_ne_nine_of_bit7 (h : w.getLsbD 7 = false) : w.extractLsb' 4 4 ≠ 9#4 := by
  intro h9
  have h7 : w.getLsbD 7 = true := by simpa using congrArg (·.getLsbD 3) h9
  exact absurd (h.symm.trans h7) Bool.false_ne_true

theorem decodeArm_encMul (op : BitVec 7) (h : op.extractLsb' 4 3 = 0#3) :
    decodeArm (encMul c op s r16 r12 r8 r0) = decodeMulSwp c (encMul c op s r16 r12 r8 r0) := by
  simp only [decodeArm, encMul_fields, Cond.ofBits_bits, h, if_true]

theorem decodeArm_encHalf (i : Bool) (sh : BitVec 2) (b11 b3 : BitVec 4) (h : sh ≠ 0#2) :
    decodeArm (encHalf c m i l r16 r12 sh b11 b3) = decodeHalf c (encHalf c m i l r16 r12 sh b11 b3) := by
  have h9 := low_ne_nine_of_shift (w := encHalf c m i l r16 r12 sh b11 b3) (by simpa only [encHalf_fields])
  simp only [decodeArm, encHalf_fields, Cond.ofBits_bits, h9, if_false, Bool.and_self, if_true]

theorem decodeArm_encDpImm (o : RotImm) (h : ¬ (op.extractLsb' 2 2 = 2#2 ∧ s = false)) :
    decodeArm (encDpImm c op s r16 r12 o) = decodeDpImm c (encDpImm c op s r16 r12 o) := by
  simp only [decodeArm, encDpImm_fields, Cond.ofBits_bits, h, if_false]

theorem decodeArm_encDpImmShift (o : ImmShift) (h : ¬ (op.extractLsb' 2 2 = 2#2 ∧ s = false)) :
    decodeArm (encDpImmShift c op s r16 r12 o) = decodeDpImmShift c (encDpImmShift c op s r16 r12 o) := by
  have h9 := low_ne_nine_of_bit4 (w := encDpImmShift c op s r16 r12 o) (by simp only [encDpImmShift_fields])
  simp only [decodeArm, encDpImmShift_fields, Cond.ofBits_bits, h9, h, Bool.and_false, Bool.false_eq_true, if_false]

theorem decodeArm_encDpRegShift (o : RegShift) (h : ¬ (op.extractLsb' 2 2 = 2#2 ∧ s = false)) :
    decodeArm (encDpRegShift c op s r16 r12 o) = decodeDpRegShift c (encDpRegShift c op s r16 r12 o) := by
  have h9 := low_ne_nine_of_bit7 (w := encDpRegShift c op s r16 r12 o) (by simp only [encDpRegShift_fields])
  simp only [decodeArm, encDpRegShift_fields, Cond.ofBits_bits, h9, h, Bool.false_and, Bool.false_eq_true, if_false, if_true]

theorem decodeArm_encSingleImm (off : BitVec 12) :
    decodeArm (encSingleImm c m s l r16 r12 off) = decodeSingleImm c (encSingleImm c m s l r16 r12 off) := by
  simp only [decodeArm, encSingleImm_fields, Cond.ofBits_bits]

theorem decodeArm_encSingleReg (o : ImmShift) :
    decodeArm (encSingleReg c m s l r16 r12 o) = decodeSingleReg c (encSingleReg c m s l r16 r12 o) := by
  simp only [decodeArm, encSingleReg_fields, Cond.ofBits_bits, Bool.false_eq_true, if_false]

theorem decodeArm_encBlock (list : BitVec 16) :
    decodeArm (encBlock c m s l r16 list) = decodeBlock c (encBlock c m s l r16 list) := by
  simp only [decodeArm, encBlock_fields, Cond.ofBits_bits]

end ArmFormats

section ThumbFormats

variable (op : BitVec 5) (hi mid low : LoReg)

theorem encT5_fields (off : BitVec 5) :
    (encT5 op off mid low).extractLsb' 12 4 = op.extractLsb' 1 4 ∧ (encT5 op off mid low).getLsbD 11 = op.getLsbD 0 ∧
    (encT5 op off mid low).extractLsb' 6 5 = off ∧ lowField (encT5 op off mid low) 3 = mid ∧ lowField (encT5 op off mid low) 0 = low := by
  simp (disch := decide) only [encT5, lowField, at16_eq_placed, lowBits_toFin, BitVec.extractLsb'_or, BitVec.getLsbD_or, placed_field,
    placed_field_within, placed_field_above, placed_field_below, placed_bit, placed_bit_above, BitVec.or_zero, BitVec.zero_or,
    Bool.or_false, Nat.sub_self, and_self]

theorem encT8_fields (off : BitVec 8) :
    (encT8 op hi off).extractLsb' 12 4 = op.extractLsb' 1 4 ∧ (encT8 op hi off).getLsbD 11 = op.getLsbD 0 ∧
    lowField (encT8 op hi off) 8 = hi ∧ (encT8 op hi off).extractLsb' 0 8 = off := by
  simp (disch := decide) only [encT8, lowField, at16_eq_placed, lowBits_toFin, BitVec.extractLsb'_or, BitVec.getLsbD_or, placed_field,
    placed_field_within, placed_field_above, placed_field_below, placed_bit, placed_bit_above, BitVec.or_zero, BitVec.zero_or,
    Bool.or_false, Nat.sub_self, and_self]

theorem encT7_fields (op : BitVec 7) (f : BitVec 3) :
    (encT7 op f mid low).extractLsb' 12 4 = op.extractLsb' 3 4 ∧ (encT7 op f mid low).getLsbD 11 = op.getLsbD 2 ∧
    (encT7 op f mid low).extractLsb' 9 2 = op.extractLsb' 0 2 ∧ (encT7 op f mid low).extractLsb' 9 3 = op.extractLsb' 0 3 ∧
    (encT7 op f mid low).extractLsb' 6 3 = f ∧ lowField (encT7 op f mid low) 6 = f.toFin ∧ lowField (encT7 op f mid low) 3 = mid ∧
    lowField (encT7 op f mid low) 0 = low := by
  simp (disch := decide) only [encT7, lowField, at16_eq_placed, lowBits_toFin, BitVec.extractLsb'_or, BitVec.getLsbD_or, placed_field,
    placed_field_within, placed_field_above, placed_field_below, placed_bit, placed_bit_above, BitVec.or_zero, BitVec.zero_or,
    Bool.or_false, Nat.sub_self, and_self]

theorem encT4_fields (op : BitVec 4) :
    (encT4 op mid low).extractLsb' 12 4 = 4#4 ∧ (encT4 op mid low).getLsbD 11 = false ∧ (encT4 op mid low).getLsbD 10 = false ∧
    (encT4 op mid low).extractLsb' 6 4 = op ∧ lowField (encT4 op mid low) 3 = mid ∧ lowField (encT4 op mid low) 0 = low := by
  simp (disch := decide) only [encT4, lowField, at16_eq_placed, lowBits_toFin, BitVec.extractLsb'_or, BitVec.getLsbD_or, placed_field,
    placed_field_within, placed_field_above, placed_field_below, placed_bit, placed_bit_above, BitVec.or_zero, BitVec.zero_or,
    Bool.or_false, Nat.sub_self, Nat.reduceSub, BitVec.reduceExtractLsb', BitVec.reduceGetLsb, and_self]

theorem encTHi_fields (op : BitVec 2) (d m : Reg) :
    (encTHi op d m).extractLsb' 12 4 = 4#4 ∧ (encTHi op d m).getLsbD 11 = false ∧ (encTHi op d m).getLsbD 10 = true ∧
    (encTHi op d m).extractLsb' 8 2 = op ∧ (encTHi op d m).extractLsb' 7 1 = (regBits d).extractLsb' 3 1 ∧
    (encTHi op d m).extractLsb' 0 3 = (regBits d).extractLsb' 0 3 ∧ (encTHi op d m).extractLsb' 3 4 = regBits m := by
  simp (disch := decide) only [encTHi, at16_eq_placed, BitVec.extractLsb'_or, BitVec.getLsbD_or, placed_field, placed_field_within,
    placed_field_above, placed_field_below, placed_bit, placed_bit_above, BitVec.or_zero, BitVec.zero_or, Bool.or_false, Nat.sub_self,
    Nat.reduceSub, BitVec.reduceExtractLsb', BitVec.reduceGetLsb, and_self]

end ThumbFormats

/-! ## The instructions, format by format -/

theorem halves_append (off : BitVec 8) : off.extractLsb' 4 4 ++ off.extractLsb' 0 4 = off := by
  apply BitVec.eq_of_getLsbD_eq
  intro j hj
  rw [BitVec.getLsbD_append, BitVec.getLsbD_extractLsb', BitVec.getLsbD_extractLsb']
  split
  · next h => simp [h]
  · next h =>
    have hsub : j - 4 < 4 := by omega
    rw [decide_eq_true hsub, Bool.true_and, Nat.add_sub_cancel' (by omega)]

theorem hiReg_append (d : Reg) : ((regBits d).extractLsb' 3 1 ++ (regBits d).extractLsb' 0 3).toFin = d := by
  revert d; decide

theorem bits23to20 (w : Word) : w.extractLsb' 20 4 = w.extractLsb' 21 3 ++ BitVec.ofBool (w.getLsbD 20) := by
  apply BitVec.eq_of_getLsbD_eq
  intro j hj
  rw [BitVec.getLsbD_append, BitVec.getLsbD_extractLsb', BitVec.getLsbD_extractLsb', BitVec.getLsbD_ofBool, decide_eq_true hj, Bool.true_and]
  split
  · next h => simp [show j = 0 by omega]
  · next h =>
    have hsub : j - 1 < 3 := by omega
    rw [decide_eq_true hsub, Bool.true_and]
    congr 1
    omega

theorem stack_ne_addSp {op : BitVec 7} (r : Bool) (h : op.getLsbD 1 = true) :
    (placed 16 op 9).extractLsb' 8 4 ||| (placed 16 (bit r) 8).extractLsb' 8 4 ≠ 0#4 := by
  intro h0
  have h10 := congrArg (·.getLsbD 2) h0
  simp (disch := decide) only [BitVec.getLsbD_extractLsb', BitVec.getLsbD_or, placed_bit, placed_bit_above, Nat.reduceAdd, Nat.reduceSub,
    Nat.reduceLT, h, decide_true, Bool.true_and, Bool.true_or, BitVec.getLsbD_zero, Bool.true_eq_false] at h10

theorem Cond.bits_eq_14 {c : Cond} : c.bits = 14#4 ↔ c = .al := by cases c <;> decide

theorem Cond.bits_eq_15 {c : Cond} : c.bits = 15#4 ↔ c = .nv := by cases c <;> decide

theorem notT_iff {m : Idx} : m.notT = true ↔ (!m.p && m.w) = false := by
  rw [Idx.notT, ← Bool.not_eq_true']
  cases m.p <;> cases m.w <;> decide

theorem decode_encode {i : Instr} (h : i.wf = true) : i.encode.decode = i := by
  cases i
  case mul | mla | umull | umlal | smull | smlal =>
    simp only [Instr.encode, Code.decode, decodeArm_encMul, decodeMulSwp, encMul_fields, BitVec.reduceExtractLsb', BitVec.reduceGetLsb,
      if_true] <;> rfl
  case swp | swpb =>
    simp only [Instr.encode, Code.decode, decodeArm_encMul, decodeMulSwp, bits23to20, encMul_fields, BitVec.reduceExtractLsb',
      BitVec.reduceGetLsb]
    rfl
  case strhReg | strhImm | ldrhReg | ldrhImm | ldrsbReg | ldrsbImm | ldrshReg | ldrshImm =>
    simp only [Instr.encode, Code.decode, ne_eq, BitVec.ofNat_eq_ofNat, BitVec.reduceEq, not_false_eq_true, decodeArm_encHalf,
      decodeHalf, encHalf_fields, halves_append, regBits_toFin, if_true, if_false, Bool.false_eq_true] <;> rfl
  case andImm | eorImm | subImm | rsbImm | addImm | adcImm | sbcImm | rscImm | tstImm | teqImm | cmpImm | cmnImm | orrImm | movImm
    | bicImm | mvnImm =>
    simp only [Instr.encode, Code.decode, decodeArm_encDpImm, decodeDpImm, encDpImm_fields, BitVec.reduceExtractLsb', BitVec.reduceEq,
      false_and, and_false, not_false_eq_true, Bool.true_eq_false]
    rfl
  case andImmShift | eorImmShift | subImmShift | rsbImmShift | addImmShift | adcImmShift | sbcImmShift | rscImmShift | tstImmShift
    | teqImmShift | cmpImmShift | cmnImmShift | orrImmShift | movImmShift | bicImmShift | mvnImmShift =>
    simp only [Instr.encode, Code.decode, decodeArm_encDpImmShift, decodeDpImmShift, encDpImmShift_fields, BitVec.reduceExtractLsb',
      BitVec.reduceEq, false_and, and_false, not_false_eq_true, Bool.true_eq_false]
    rfl
  case andRegShift | eorRegShift | subRegShift | rsbRegShift | addRegShift | adcRegShift | sbcRegShift | rscRegShift | tstRegShift
    | teqRegShift | cmpRegShift | cmnRegShift | orrRegShift | movRegShift | bicRegShift | mvnRegShift =>
    simp only [Instr.encode, Code.decode, decodeArm_encDpRegShift, decodeDpRegShift, encDpRegShift_fields, BitVec.reduceExtractLsb',
      BitVec.reduceEq, false_and, and_false, not_false_eq_true, Bool.true_eq_false]
    rfl
  case ldrtImm | ldrbtImm | strtImm | strbtImm =>
    simp only [Instr.encode, Code.decode, decodeArm_encSingleImm, decodeSingleImm, encSingleImm_fields, tIdx, Bool.not_false,
      Bool.and_self, if_true, if_false, Bool.false_eq_true]
  case ldrImm | ldrbImm | strImm | strbImm =>
    simp only [Instr.encode, Code.decode, decodeArm_encSingleImm, decodeSingleImm, encSingleImm_fields, notT_iff.mp h, if_true, if_false,
      Bool.false_eq_true]
  case ldrtReg | ldrbtReg | strtReg | strbtReg =>
    simp only [Instr.encode, Code.decode, decodeArm_encSingleReg, decodeSingleReg, encSingleReg_fields, tIdx, Bool.not_false,
      Bool.and_self, if_true, if_false, Bool.false_eq_true]
  case ldrReg | ldrbReg | strReg | strbReg =>
    simp only [Instr.encode, Code.decode, decodeArm_encSingleReg, decodeSingleReg, encSingleReg_fields, notT_iff.mp h, if_true, if_false,
      Bool.false_eq_true]
  case ldmRet | ldmUser | stmUser | ldm | stm =>
    simp_all only [Instr.wf, Instr.encode, Code.decode, decodeArm_encBlock, decodeBlock, encBlock_fields,
      if_true, if_false, Bool.false_eq_true, Bool.not_eq_eq_eq_not, Bool.not_true]
  case undefMul | undefSwp | undefHalfwordStore | undefMisc | undefImmCmp | undefMedia | coprocXfer | coprocOp =>
    simp (disch := decide) only [Instr.encode, Code.decode, decodeArm, decodeMulSwp, decodeHalf, decodeMisc, at32_eq_placed, regField,
      BitVec.extractLsb'_or, BitVec.getLsbD_or, placed_field, placed_field_below, placed_bit_below, BitVec.or_zero, BitVec.zero_or,
      Bool.false_or, Bool.or_false, BitVec.reduceExtractLsb', BitVec.reduceGetLsb, Cond.ofBits_bits, BitVec.reduceEq, if_true, if_false,
      Bool.false_eq_true, Bool.and_self, Bool.and_true, and_self] <;> rfl
  case tUndef1011 | tUndefDe | tUndefE8 =>
    rfl
  case mrs | msrReg | bx | msrImm | b | bl | swi =>
    simp (disch := decide) only [Instr.encode, Code.decode, decodeArm, decodeMisc, rotImmField, bit_getLsbD, at32_eq_placed, regField,
      regBits_toFin, BitVec.extractLsb'_or, BitVec.getLsbD_or, placed_field, placed_field_within, placed_field_above, placed_field_below,
      placed_bit, placed_bit_above, placed_bit_below, BitVec.or_zero, BitVec.zero_or, Bool.false_or, Bool.or_false, Nat.sub_self,
      Nat.reduceSub, BitVec.reduceExtractLsb', BitVec.reduceGetLsb, Cond.ofBits_bits, BitVec.reduceEq, if_true, if_false,
      Bool.false_eq_true, Bool.and_self, Bool.and_true, and_self]
  case tLslImm | tLsrImm | tAsrImm | tStrImm | tLdrImm | tStrbImm | tLdrbImm | tStrhImm | tLdrhImm =>
    simp only [Instr.encode, Code.decode, decodeThumb, encT5_fields, BitVec.reduceExtractLsb', BitVec.reduceGetLsb, if_true, if_false,
      Bool.false_eq_true]
  case tMovImm | tCmpImm | tAddImm8 | tSubImm8 | tLdrPc | tStrSp | tLdrSp | tAddPc | tAddSp | tStmia | tLdmia =>
    simp only [Instr.encode, Code.decode, decodeThumb, encT8_fields, BitVec.reduceExtractLsb', BitVec.reduceGetLsb, if_true, if_false,
      Bool.false_eq_true]
  case tAddReg | tSubReg | tAddImm3 | tSubImm3 =>
    simp only [Instr.encode, Code.decode, decodeThumb, encT7_fields, lowBits_toFin, BitVec.reduceExtractLsb', BitVec.reduceGetLsb,
      if_true] <;> rfl
  case tStrReg | tStrhReg | tStrbReg | tLdsbReg | tLdrReg | tLdrhReg | tLdrbReg | tLdshReg =>
    simp only [Instr.encode, Code.decode, decodeThumb, decodeThumbRegOffset, encT7_fields, lowBits_toFin, BitVec.reduceExtractLsb'] <;>
      rfl
  case tAnd | tEor | tLsl | tLsr | tAsr | tAdc | tSbc | tRor | tTst | tNeg | tCmp | tCmn | tOrr | tMul | tBic | tMvn =>
    simp only [Instr.encode, Code.decode, decodeThumb, decodeThumbAlu, encT4_fields, if_false, Bool.false_eq_true]
    rfl
  case tAddHi | tCmpHi | tMovHi =>
    simp only [Instr.encode, Code.decode, decodeThumb, decodeThumbHi, encTHi_fields, hiReg_append, regBits_toFin, if_true, if_false,
      Bool.false_eq_true]
    rfl
  case tBx | tAddSpImm | tSwi | tB | tBlHi | tBlLo =>
    simp (disch := decide) only [Instr.encode, Code.decode, decodeThumb, decodeThumbHi, decodeThumb1011, bit_getLsbD, at16_eq_placed,
      regBits_toFin, BitVec.extractLsb'_or, BitVec.getLsbD_or, placed_field, placed_field_within, placed_field_above, placed_field_below,
      placed_bit, placed_bit_above, placed_bit_below, BitVec.or_zero, BitVec.zero_or, Bool.false_or, Bool.or_false, Nat.sub_self,
      Nat.reduceSub, BitVec.reduceExtractLsb', BitVec.reduceGetLsb, BitVec.reduceEq, if_true, if_false, Bool.false_eq_true]
  case tPush r list | tPop r list =>
    have hne := stack_ne_addSp (op := 0x5A#7) r rfl
    have hne' := stack_ne_addSp (op := 0x5E#7) r rfl
    simp (disch := decide) only [Instr.encode, Code.decode, decodeThumb, hne, hne', decodeThumb1011, bit_getLsbD, at16_eq_placed,
      BitVec.extractLsb'_or, BitVec.getLsbD_or, placed_field, placed_field_within, placed_field_above, placed_field_below, placed_bit,
      placed_bit_above, placed_bit_below, BitVec.or_zero, BitVec.zero_or, Bool.false_or, Bool.or_false, Nat.sub_self, Nat.reduceSub,
      BitVec.reduceExtractLsb', BitVec.reduceGetLsb, if_true, if_false, Bool.false_eq_true]
  case tBCond c off =>
    obtain ⟨hal, hnv⟩ := Bool.and_eq_true_iff.mp h
    simp (disch := decide) only [Instr.encode, Code.decode, decodeThumb, Cond.bits_eq_14, Cond.bits_eq_15, of_decide_eq_true hal,
      of_decide_eq_true hnv, at16_eq_placed, BitVec.extractLsb'_or, placed_field, placed_field_above, placed_field_below, BitVec.or_zero,
      BitVec.zero_or, Cond.ofBits_bits, if_false]

/-! ## The bytes of a code -/

theorem byte_append {n k : Nat} (w : BitVec n) (lo a b : Nat) (h : lo + b = k) :
    w.extractLsb' k a ++ w.extractLsb' lo b = w.extractLsb' lo (a + b) := by
  subst h
  apply BitVec.eq_of_getLsbD_eq
  intro j hj
  simp only [BitVec.getLsbD_append, BitVec.getLsbD_extractLsb', decide_eq_true hj, Bool.true_and]
  split
  · next h => rw [decide_eq_true h, Bool.true_and]
  · next h =>
    have hsub : j - b < a := by omega
    rw [decide_eq_true hsub, Bool.true_and]
    congr 1
    omega

theorem codeOfBytes_arm (w : Word) : codeOfBytes false (Code.arm w).bytes = .ok (.arm w) := by
  have hw : w.extractLsb' 0 (8 + 24) = w := BitVec.extractLsb'_eq_self
  simp only [codeOfBytes, Code.bytes, BitVec.append_assoc, BitVec.cast_eq, byte_append w 0 8 8 rfl, byte_append w 0 8 16 rfl,
    byte_append w 0 8 24 rfl, hw]

theorem codeOfBytes_thumb (h : Half) : codeOfBytes true (Code.thumb h).bytes = .ok (.thumb h) := by
  simp only [codeOfBytes, Code.bytes, byte_append h 0 8 8 rfl, Nat.reduceAdd, BitVec.extractLsb'_eq_self]

/-- The T bit that selects an instruction's table is the one its code is of: the decoder of each table gives its own instructions only. -/
theorem decodeBytes_bytes (code : Code) : decodeBytes (!code.decode.isArm) code.bytes = .ok code.decode := by
  cases code with
  | arm w =>
    rw [Code.decode, Machine.decodeArm_isArm, decodeBytes, Bool.not_true, codeOfBytes_arm]
    rfl
  | thumb h =>
    rw [Code.decode, Machine.decodeThumb_isArm, decodeBytes, Bool.not_false, codeOfBytes_thumb]
    rfl

/-- Settles O50: format by format, each field of the encoding is what the decoder reads at its place. -/
theorem decodeEncode : Obligations.DecodeEncode := by
  intro i hwf
  have hi := decode_encode hwf
  have hbytes := decodeBytes_bytes i.encode
  rw [hi] at hbytes
  exact ⟨hi, hbytes⟩

end Sys2Proof
end EncodeDecode

/-! # Reset, the step's order and the interrupts (10_state.md R60, 60_exceptions.md R530 to R545, 70_reset_and_hazards.md R580, R610) -/

section StepAndInterrupts

open Sys2Proof.Claims

namespace Sys2Proof.Machine

/-- Settles O2: both boot modes give a legal mode and a fetch address aligned for ARM state; memory is the images. -/
theorem resetKeepsInv : Obligations.ResetKeepsInv := by
  have hreset : ∀ (c : Config) (code data : CostTable) (images : Memory), images.wf = true → (State.resetWith c code data images).Inv := by
    intro c code data images hm
    cases hb : c.boot with
    | cold => refine .mk' ?_ ?_ hm <;> simp only [State.resetWith, State.thumb, State.pc, hb] <;> decide
    | direct => refine .mk' ?_ ?_ hm <;> simp only [State.resetWith, State.thumb, State.pc, hb] <;> decide
  exact ⟨hreset _ _ _ [] rfl, hreset⟩

/-- Settles O49: each word is decoded by evaluation. -/
theorem exampleWords : Obligations.ExampleWords := by
  unfold Obligations.ExampleWords
  decide

/-! ## The fetch (R130, R580) -/

/-- The bytes at the program counter, as many as the T bit says, are those of the code fetched. -/
theorem decodeBytes_fetched (s : State) :
    decodeBytes s.thumb (if s.thumb then [s.read8 s.pc, s.read8 (s.pc + 1)]
      else [s.read8 s.pc, s.read8 (s.pc + 1), s.read8 (s.pc + 2), s.read8 (s.pc + 3)]) = .ok s.fetchCode.decode := by
  rw [State.fetchCode]
  cases s.thumb <;> rfl

theorem step_of_no_interrupt {s : State} (hfault : s.fault = none) (htaken : s.taken = none) :
    step s = s.takeInputs.access s.pc s.fw (exec s.fetchCode.decode s.takeInputs) := by
  rw [step, hfault, htaken]

/-- Settles O4: the step executes the code it fetched, once the access is no fault. -/
theorem stepRunsDecoded : Obligations.StepRunsDecoded := by
  unfold Obligations.StepRunsDecoded
  intro s i hfault htaken hacc hdecode
  have hi : s.fetchCode.decode = i := Except.ok.inj ((decodeBytes_fetched s).symm.trans hdecode)
  rw [step_of_no_interrupt hfault htaken, State.access_ok (s := s.takeInputs) hacc, hi]
  rfl

/-! ## What is taken (R540, R541, R545) -/

theorem State.fiqNow_iff (s : State) : s.fiqNow = true ↔ s.fiqLine.head? = some true := by
  rw [State.fiqNow]
  cases s.fiqLine with
  | nil => simp
  | cons b bs => simp

theorem read16_getLsbD (s : State) (a : Word) {k : Nat} (hk : k < 8) : (s.read16 a).getLsbD k = (s.read8 a).getLsbD k := by
  rw [State.read16, BitVec.getLsbD_append, if_pos hk]

/-- Some common bit of two halfwords among the lowest `n`. -/
theorem extractLsb'_and_ne_zero_iff (x y : Half) (n : Nat) :
    (x &&& y).extractLsb' 0 n ≠ 0#n ↔ ∃ k, k < n ∧ x.getLsbD k = true ∧ y.getLsbD k = true := by
  constructor
  · intro h
    by_contra hno
    apply h
    apply BitVec.eq_of_getLsbD_eq
    intro j hj
    rw [BitVec.getLsbD_extractLsb', decide_eq_true hj, Bool.true_and, Nat.zero_add, BitVec.getLsbD_and]
    rw [BitVec.getLsbD_zero]
    by_contra hbit
    exact hno ⟨j, hj, Bool.and_eq_true_iff.mp (Bool.eq_true_of_not_eq_false hbit)⟩
  · rintro ⟨k, hk, hx, hy⟩ h0
    have hbit := congrArg (·.getLsbD k) h0
    simp only [BitVec.getLsbD_extractLsb', decide_eq_true hk, Nat.zero_add, BitVec.getLsbD_and, hx, hy, BitVec.getLsbD_zero] at hbit
    cases hbit

theorem State.irqLine_iff (s : State) : s.irqLine = true ↔
    (s.read8 0x04000208).getLsbD 0 = true ∧
      ∃ k, k < 14 ∧ (s.read16 0x04000200).getLsbD k = true ∧ (s.read16 0x04000202).getLsbD k = true := by
  rw [State.irqLine, Bool.and_eq_true, decide_eq_true_iff, read16_getLsbD s _ (by decide)]
  exact and_congr_right fun _ => extractLsb'_and_ne_zero_iff _ _ 14

theorem State.taken_fiq_iff (s : State) : s.taken = some .fiq ↔ s.fiqNow = true ∧ s.cpsr.getLsbD 6 = false := by
  rw [State.taken, State.maskF]
  cases s.fiqNow <;> cases s.cpsr.getLsbD 6 <;> cases s.irqLine && !s.maskI <;> decide

theorem State.taken_irq_iff (s : State) : s.taken = some .irq ↔
    ¬ (s.fiqNow = true ∧ s.cpsr.getLsbD 6 = false) ∧ s.cpsr.getLsbD 7 = false ∧ s.irqLine = true := by
  rw [State.taken, State.maskF, State.maskI]
  cases s.fiqNow <;> cases s.cpsr.getLsbD 6 <;> cases s.irqLine <;> cases s.cpsr.getLsbD 7 <;> decide

/-- A fault leaves its state with the mark, which is the state the host is answered (R580, R610). -/
theorem markStep_of_halts {s t : State} {f : FaultName} (h : Halts (step s) f t) : markStep s = { t with fault := some f } := by
  rw [markStep, h]
  exact FaultName.fault_stuck ..

theorem configure_fiqLine {c : Config} {code data : CostTable} {bios rom sram : List Byte} {fiq : List Bool} {s : State}
    (h : configure c code data bios rom sram fiq = some s) : s.fiqLine = fiq := by
  simp only [configure, Option.ite_none_right_eq_some] at h
  obtain ⟨-, hs⟩ := h
  cases hs
  rfl

/-- Settles O5: the step's first match is on the fault mark; what is taken is a matter of four bits. -/
theorem stepOrder : Obligations.StepOrder := by
  unfold Obligations.StepOrder
  refine ⟨fun s f hf => ?_, fun s t f h => markStep_of_halts h, fun s => ?_, fun s => ?_, fun s e => State.taken_eq, fun s fiq draw => ?_, ?_⟩
  · rw [step, hf]; rfl
  · rw [State.taken_fiq_iff, State.fiqNow_iff]
  · rw [State.taken_irq_iff, State.fiqNow_iff, State.irqLine_iff]
  · rw [State.taken_fiq_iff]; rfl
  · intro c code data bios rom sram fiq s h
    exact configure_fiqLine h

/-! ## The entry (R530, R597) -/

/-- The entry of an interrupt: the charge of the fetch that is not executed, no advance of the program counter. -/
theorem interrupt_enters (s : State) (e : Exc) :
    Enters s (s.interrupt e) e.mode e.setsF e.vector (s.pc + 4) (own s + refillAt s false e.vector) ∧ RestKept s (s.interrupt e) := by
  have h := (((Core.refl s).charge .code .s s.fw s.pc).enter e (s.pc + 4)).refill
  have hthumb : ((s.charge .code .s s.fw s.pc).enter e (s.pc + 4)).thumb = false := Exc.cpsr_thumb e s.cpsr
  rw [hthumb, Nat.zero_add] at h
  exact ⟨.of_core h (h.memoryKept rfl rfl), h.rest⟩

theorem step_of_taken {s : State} {e : Exc} (hfault : s.fault = none) (htaken : s.taken = some e) :
    step s = .next (s.takeInputs.interrupt e) := by
  rw [step, hfault, htaken]

/-- Settles O6: the entry in the state with its inputs taken, of which no part but those inputs is another. -/
theorem interruptEntry : Obligations.InterruptEntry := by
  unfold Obligations.InterruptEntry
  intro s hfault
  constructor
  all_goals
    intro htaken
    obtain ⟨henters, hcode, hdata, hmark, hcfg, -⟩ := interrupt_enters s.takeInputs _
    exact ⟨_, step_of_taken hfault htaken, henters, hcode, hdata, hmark.trans hfault, hcfg⟩

end Sys2Proof.Machine

end StepAndInterrupts

/-! # Skipped instructions, status transfers, returns, multiplies and BX (41_arm_data_processing.md R259, R280 to R284, 42_arm_multiply.md
R300 to R309) -/

section StatusAndMultiply

open Sys2Proof.Claims Sys2Proof.Machine

namespace Sys2Proof.Machine

section Skipped

variable {s : State} {i : Instr}

/-- Every instruction stands behind the gate of its condition (R582), the Thumb ones behind that of AL, which passes always. -/
theorem exec_skips (hskip : s.passes (conditionOf i) = false) : exec i s = .next s.fetched := by
  cases i <;> exact State.gate_skips hskip _

/-- Settles O19: a failed gate leaves only the fetch. -/
theorem skippedOnlyAdvances : Obligations.SkippedOnlyAdvances := by
  unfold Obligations.SkippedOnlyAdvances
  intro s i _ harm hskip
  have h := Core.fetched_arm harm
  exact ⟨_, exec_skips hskip, h, h.memoryKept rfl rfl⟩

end Skipped

end Sys2Proof.Machine

namespace Sys2Proof.Claims

variable {s t : State} {w : List (Phys × Word)} {cpsr : Word} {spsr : Mode → Option Word} {n : Nat}

theorem Core.setCpsr (h : Core s t w cpsr spsr n) (v : Word) : Core s { t with cpsr := v } w v spsr n := by
  obtain ⟨hregs, -, hrest⟩ := h
  exact ⟨hregs, rfl, hrest⟩

/-- A write of a register whose mode and state are those of the instruction's start. -/
theorem Core.setReg_same (h : Core s t w s.cpsr spsr n) (i : Reg) (v : Word) : Core s (t.setReg i v) (dest s i v :: w) s.cpsr spsr n :=
  dest_congr (State.mode_congr h.cpsr_eq) (State.thumb_congr h.cpsr_eq) i v ▸ h.setReg i v

/-- A return that completes: CPSR, the program counter and the refill at the new width. -/
theorem Core.returned (h : Core s t w s.cpsr spsr n)
    (v target : Word) : Core s (({ t with cpsr := v } : State).setPc target).refill ((.r15, target) :: w) v spsr
      (n + refillAt s (v.getLsbD 5) target) :=
  ((h.setCpsr v).setPc target).refill

theorem Core.mulFlags (h : Core s t w s.cpsr spsr n) (r : Word) :
    Core s (t.mulFlags r) w (flagsOf s.cpsr r (Config.mulC s.draws) s.flagV) spsr n := by
  obtain ⟨-, -, -, -, -, hdraws⟩ := h.rest
  have hv : t.flagV = s.flagV := by rw [State.flagV, h.cpsr_eq, State.flagV]
  rw [State.mulFlags, State.flagsOf, hdraws, hv, negOf_toInt]
  exact h.writeFlags _ _ _ _

theorem Core.longMulFlags (h : Core s t w s.cpsr spsr n)
    (p : DWord) : Core s (t.longMulFlags p) w
      (flagged s.cpsr (decide (p.toInt < 0)) (decide (p = 0)) (Config.mulC s.draws) (Config.mulV s.draws)) spsr n := by
  obtain ⟨-, -, -, -, -, hdraws⟩ := h.rest
  rw [State.longMulFlags, hdraws, ← BitVec.msb_eq_toInt, BitVec.msb_eq_getLsbD_last]
  exact h.writeFlags _ _ _ _

end Sys2Proof.Claims

namespace Sys2Proof.Machine

/-! ## MRS and MSR -/

theorem exec_mrs {s : State} {c : Cond} (hpass : s.passes c = true) (r : Bool) {rd : Reg} (hpermits : Permits s (rd ≠ 15)) :
    exec (.mrs c r rd) s = match (if r then s.spsrNow else some s.cpsr) with
      | some v => .next (s.fetched.setReg rd v)
      | none => s.stop .modeError :=
  (State.gate_passes hpass _).trans (State.guarded_of_permits hpermits (fun h15 => by simp [firstCase, h15]) _)

/-- Settles O25: the word read is written to Rd after the fetch. -/
theorem readStatus : Obligations.ReadStatus := by
  unfold Obligations.ReadStatus
  rintro s c rd ⟨harm, hpass⟩ hpermits
  have hruns : ∀ v, Core s (s.fetched.setReg rd v) [dest s rd v, (.r15, s.pc + 4)] s.cpsr s.spsr.get (own s) ∧
      MemoryKept s (s.fetched.setReg rd v) := by
    intro v
    have h := (Core.fetched_arm harm).setReg_same rd v
    exact ⟨h, h.memoryKept (State.setReg_mem ..) (State.setReg_ioEvents ..)⟩
  refine ⟨⟨_, exec_mrs hpass false hpermits, hruns s.cpsr⟩, fun v hv => ⟨_, ?_, hruns v⟩⟩
  rw [exec_mrs hpass true hpermits, if_pos rfl, State.spsrNow, hv]

/-- The UNPREDICTABLE case of MSR's operand (R281). -/
def msrOperandCases : Reg ⊕ RotImm → List (Bool × Unpred)
  | .inl rm => [(decide (rm = 15), .msrRm15)]
  | .inr _ => []

theorem firstCase_msrOperandCases {x : Reg ⊕ RotImm} (h : x ≠ .inl 15) : firstCase (msrOperandCases x) = none := by
  cases x with
  | inl rm =>
    have hrm : rm ≠ 15 := fun h15 => h (congrArg _ h15)
    simp [msrOperandCases, firstCase, hrm]
  | inr o => rfl

theorem exec_msr {s : State} {c : Cond} (hpass : s.passes c = true) (r : Bool) (mask : BitVec 4) (x : Reg ⊕ RotImm) :
    exec (msr c r mask x) s = s.msr r mask (msrValue s x) (msrOperandCases x) := by
  cases x with
  | inl rm => exact State.gate_passes hpass _
  | inr o => rw [msrValue, ← ror_rotateRight]; exact State.gate_passes hpass _

/-- MSR to CPSR, where no UNPREDICTABLE case stops it, writes `msrWord` after its mode check (R283). -/
theorem exec_msr_cpsr {s : State} {c : Cond} {mask : BitVec 4} {x : Reg ⊕ RotImm} (harm : s.thumb = false) (hpass : s.passes c = true)
    (hpermits : Permits s (x ≠ .inl 15 ∧ (msrWord s.cpsr (msrValue s x) mask (decide (s.mode ≠ .usr))).getLsbD 5 = false)) :
    exec (msr c false mask x) s =
      s.orStop (s.fetched.writeCpsr (msrWord s.cpsr (msrValue s x) mask (decide (s.mode ≠ .usr)))) := by
  rw [exec_msr hpass, State.msr, if_neg Bool.false_ne_true]
  simp only [State.msrCpsr_eq]
  refine State.guarded_of_permits hpermits (fun ⟨h15, hT⟩ => ?_) _
  rw [harm, hT]
  cases x with
  | inl rm =>
    have hrm : rm ≠ 15 := fun h => h15 (congrArg _ h)
    simp [msrOperandCases, firstCase, hrm]
  | inr o => rfl

/-- Settles O26: the mode check passes, and only CPSR is written after the fetch. -/
theorem writeStatus : Obligations.WriteStatus := by
  unfold Obligations.WriteStatus
  rintro s c mask x ⟨harm, hpass⟩ new hlegal hpermits
  have h := (Core.fetched_arm harm).setCpsr new
  refine ⟨_, (exec_msr_cpsr harm hpass hpermits).trans ?_, h, h.memoryKept rfl rfl⟩
  rw [State.writeCpsr_of_legal hlegal, State.orStop_ok]

theorem Spsrs.get_set_of_some {p : Spsrs} {m : Mode} {old : Word} (h : p.get m = some old) (v : Word) (k : Mode) :
    (p.set m v).get k = if k = m then some v else p.get k := by
  rw [Spsrs.get_set, h]
  rfl

theorem State.writeSpsr_of_some {s : State} {old : Word} (h : s.spsr.get s.mode = some old) (v : Word) :
    s.writeSpsr v = .ok { s with spsr := s.spsr.set s.mode v } := by
  rw [State.writeSpsr, State.spsrNow, h]

theorem exec_msr_spsr {s : State} {c : Cond} (mask : BitVec 4) {x : Reg ⊕ RotImm} (hpass : s.passes c = true)
    (hpermits : Permits s (x ≠ .inl 15)) :
    exec (msr c true mask x) s = match s.spsrNow with
      | some old => s.orStop (s.fetched.writeSpsr (maskedWrite old (msrValue s x) (msrMask mask)))
      | none => s.stop .modeError := by
  rw [exec_msr hpass, State.msr, if_pos rfl]
  exact State.guarded_of_permits hpermits firstCase_msrOperandCases _

/-- Settles O27: the SPSR of the current mode is written, whatever the word is. -/
theorem writeSavedStatus : Obligations.WriteSavedStatus := by
  unfold Obligations.WriteSavedStatus
  rintro s c mask x old ⟨harm, hpass⟩ hold hpermits
  have hexec : exec (msr c true mask x) s = .next { s.fetched with spsr := s.spsr.set s.mode (msrWord old (msrValue s x) mask true) } := by
    rw [exec_msr_spsr mask hpass hpermits, State.spsrNow, hold, ← maskedWrite_eq_msrWord]
    change s.orStop (s.fetched.writeSpsr _) = _
    rw [State.writeSpsr_of_some (s := s.fetched) hold]
    rfl
  obtain ⟨hregs, hcpsr, -, htook, hrest⟩ := Core.fetched_arm harm
  refine ⟨_, hexec, ⟨hregs, hcpsr, fun m => ?_, htook, hrest⟩, (Core.fetched_arm harm).memoryKept rfl rfl⟩
  exact Spsrs.get_set_of_some hold _ m

/-! ## The exception return by data processing (R259) -/

/-- The model's target is the rule's, from ARM state. -/
theorem returnPc_eq_returnAddress (r : ReturnAlign) (psr v : Word) : returnPc r false (psr.getLsbD 5) v = returnAddress r psr v := by
  unfold returnAddress
  generalize psr.getLsbD 5 = b
  cases r <;> cases b <;> rfl

theorem State.internal_zero (s : State) : s.internal 0 = s := by
  rw [State.internal, BitVec.add_zero, BitVec.add_zero]

/-- Flag-setting data processing into register 15 is an exception return after the charges (R259), for every form of operand 2. -/
theorem exec_dp_return {s : State} {op : DpOp} {c : Cond} {rn : Reg} {x : Operand2} (hpass : s.passes c = true) (hop : compares op = false)
    (hx : x.byRegister = true → s.cfg.unpredictable = .arm7tdmi) :
    exec (dp op c true rn 15 x) s = (s.fetched.internal x.cycles).exceptionReturn s s.cfg.dpReturn
      (dpValue op (x.first s rn) (x.value s).1 s.flagC) := by
  have hresult : (s.compute op (x.first s rn) (x.value s)).result = dpValue op (x.first s rn) (x.value s).1 s.flagC := DpOp.compute_result ..
  rw [← hresult, Operand2.cycles]
  cases hreg : x.byRegister with
  | false =>
    rw [exec_dp true rn 15 hop hreg hpass, State.dpWrite, if_pos rfl, if_pos rfl, if_neg Bool.false_ne_true,
      State.internal_zero]
    rfl
  | true =>
    rw [exec_dp_byRegister true rn 15 hop hreg hpass, State.guarded_arm7tdmi (hx hreg), State.dpWrite, if_pos rfl, if_pos rfl]
    rfl

/-- Settles O23: the return from the fetched state, whose SPSR is still the old one and names a mode. -/
theorem dataProcessingReturn : Obligations.DataProcessingReturn := by
  unfold Obligations.DataProcessingReturn
  rintro s op c rn x v ⟨harm, hpass⟩ hop hx hspsr hlegal target
  have hreturn := Core.returned ((Core.fetched_arm harm).internal x.cycles) v target
  have hcore := Core.dropLast (w := [(.r15, target)]) hreturn (by simp)
  refine ⟨_, (exec_dp_return hpass hop hx).trans ?_, hcore, hcore.memoryKept rfl rfl⟩
  rw [State.exceptionReturn_of_legal (s := s.fetched.internal x.cycles) _ _ _ hspsr hlegal]
  change Host.Outcome.next (State.refill (State.setPc _ (returnPc _ s.thumb _ _))) = _
  rw [harm, returnPc_eq_returnAddress]

/-! ## Multiplies (42_arm_multiply.md R302 to R309) -/

theorem mulCyclesSigned_eq (x : Word) : mulCyclesSigned x = signedCycles x := by
  rw [mulCyclesSigned, topSame_iff x 8 (by decide), topSame_iff x 16 (by decide), topSame_iff x 24 (by decide), signedCycles]
  simp only [decide_eq_true_eq]
  norm_num

theorem mulCyclesUnsigned_eq (x : Word) : mulCyclesUnsigned x = unsignedCycles x := by
  rw [mulCyclesUnsigned, topZero_iff, topZero_iff, topZero_iff, unsignedCycles]
  simp only [decide_eq_true_eq]
  norm_num

section Multiplies

variable {s : State} {i : Instr} {f : Bool} {n : Nat}

/-- A 32-bit multiply that nothing stops: its result, its cycles, and the flags with S = 1 (R309). -/
theorem runs_mulWrite {rd : Reg} {r : Word} (harm : s.thumb = false) (hi : exec i s = s.mulWrite f rd r n) :
    Runs i s [dest s rd r, (.r15, s.pc + 4)] (if f then flagsOf s.cpsr r (Config.mulC s.draws) s.flagV else s.cpsr) (own s + n) := by
  have h := ((Core.fetched_arm harm).internal n).setReg_same rd r
  refine ⟨_, hi, ?_⟩
  cases f with
  | false => exact ⟨h, h.memoryKept (State.setReg_mem ..) (State.setReg_ioEvents ..)⟩
  | true => exact ⟨h.mulFlags r, (h.mulFlags r).memoryKept (State.setReg_mem ..) (State.setReg_ioEvents ..)⟩

/-- A long multiply: the low half and then the high half, "written last" (R301). -/
theorem runs_mullWrite {rdHi rdLo : Reg} {p : DWord} (harm : s.thumb = false) (hi : exec i s = s.mullWrite f rdHi rdLo p n) :
    Runs i s [dest s rdHi (p.extractLsb' 32 32), dest s rdLo (p.extractLsb' 0 32), (.r15, s.pc + 4)]
      (if f then flagged s.cpsr (decide (p.toInt < 0)) (decide (p = 0)) (Config.mulC s.draws) (Config.mulV s.draws) else s.cpsr)
      (own s + n) := by
  have h := (((Core.fetched_arm harm).internal n).setReg_same rdLo (p.extractLsb' 0 32)).setReg_same rdHi (p.extractLsb' 32 32)
  have hmem := (State.setReg_mem ((s.fetched.internal n).setReg rdLo (p.extractLsb' 0 32)) rdHi (p.extractLsb' 32 32)).trans
    (State.setReg_mem ..)
  have hio := (State.setReg_ioEvents ((s.fetched.internal n).setReg rdLo (p.extractLsb' 0 32)) rdHi (p.extractLsb' 32 32)).trans
    (State.setReg_ioEvents ..)
  refine ⟨_, hi, ?_⟩
  cases f with
  | false => exact ⟨h, h.memoryKept hmem hio⟩
  | true => exact ⟨h.longMulFlags p, (h.longMulFlags p).memoryKept hmem hio⟩

end Multiplies

/-- Settles O28: the words of the model multiply as the low half of the exact product; C is this step's draw. -/
theorem multiply : Obligations.Multiply := by
  unfold Obligations.Multiply
  intro s c f rd rn rs rm
  refine ⟨fun ⟨harm, hpass⟩ hpermits => ⟨Config.mulC s.draws, ?_⟩, fun ⟨harm, hpass⟩ hpermits => ⟨Config.mulC s.draws, ?_⟩,
    fun tRs tRd hthumb => ⟨Config.mulC s.draws, ?_⟩⟩
  · rw [← mul_ofNat, ← mulCyclesSigned_eq]
    refine runs_mulWrite harm ((State.gate_passes hpass _).trans (State.guarded_of_permits hpermits ?_ _))
    rintro ⟨hrd, hrm, hrs, hne⟩
    simp [mulCases, firstCase, Ne.symm hrd, Ne.symm hrm, Ne.symm hrs, hne]
  · rw [← mul_add_ofNat, ← mulCyclesSigned_eq]
    refine runs_mulWrite harm ((State.gate_passes hpass _).trans (State.guarded_of_permits hpermits ?_ _))
    rintro ⟨hrd, hrm, hrs, hrn, hne⟩
    simp [mulCases, firstCase, Ne.symm hrd, Ne.symm hrm, Ne.symm hrs, Ne.symm hrn, hne]
  · rw [← mul_ofNat, ← mulCyclesSigned_eq]
    have h := (((Core.fetched_thumb hthumb).internal (mulCyclesSigned (s.lo tRd))).setReg_same tRd.toReg (s.lo tRd * s.lo tRs)).mulFlags
      (s.lo tRd * s.lo tRs)
    rw [dest_toReg] at h
    exact ⟨_, rfl, h, h.memoryKept (State.setReg_mem ..) (State.setReg_ioEvents ..)⟩

/-- The 64-bit accumulator is the exact number its halves stand for, unsigned and signed (R300). -/
theorem pair_ofNat (s : State) (hi lo : Reg) : s.pair hi lo = BitVec.ofNat 64 ((s.reg hi).toNat * 4294967296 + (s.reg lo).toNat) := by
  apply BitVec.eq_of_toNat_eq
  have hhi := (s.reg hi).isLt
  have hlo := (s.reg lo).isLt
  rw [State.pair, BitVec.toNat_append, ← Nat.shiftLeft_add_eq_or_of_lt hlo, Nat.shiftLeft_eq, BitVec.toNat_ofNat, Nat.mod_eq_of_lt]
  omega

theorem pair_ofInt (s : State) (hi lo : Reg) : s.pair hi lo = BitVec.ofInt 64 ((s.reg hi).toInt * 4294967296 + (s.reg lo).toNat) := by
  rw [← BitVec.ofInt_toInt (x := s.pair hi lo), State.pair, BitVec.toInt_append, Int.mul_comm]
  rfl

/-- Settles O29: the model's 64-bit product and accumulator are the exact ones; C and V are this step's draws. -/
theorem multiplyLong : Obligations.MultiplyLong := by
  unfold Obligations.MultiplyLong
  rintro s k c f rdHi rdLo rs rm ⟨harm, hpass⟩ hpermits
  refine ⟨Config.mulC s.draws, Config.mulV s.draws, runs_mullWrite harm ?_⟩
  have hexec : exec (k.instr c f rdHi rdLo rs rm) s = s.guarded (mullCases rdHi rdLo rs rm)
      (s.mullWrite f rdHi rdLo (k.value (s.reg rm) (s.reg rs) (s.reg rdHi) (s.reg rdLo)) (k.cycles (s.reg rs))) := by
    cases k with
    | umull =>
      rw [LongMul.value, LongMul.cycles, ← productU_ofNat, ← mulCyclesUnsigned_eq]
      exact State.gate_passes hpass _
    | umlal =>
      rw [LongMul.value, LongMul.cycles, BitVec.ofNat_add, ← productU_ofNat, ← pair_ofNat, ← mulCyclesUnsigned_eq]
      exact State.gate_passes hpass _
    | smull =>
      rw [LongMul.value, LongMul.cycles, ← productS_ofInt, ← mulCyclesSigned_eq]
      exact State.gate_passes hpass _
    | smlal =>
      rw [LongMul.value, LongMul.cycles, BitVec.ofInt_add, ← productS_ofInt, ← pair_ofInt, ← mulCyclesSigned_eq]
      exact State.gate_passes hpass _
  rw [hexec]
  refine State.guarded_of_permits hpermits ?_ _
  rintro ⟨hhi, hlo, hrs, hrm, h1, h2, h3⟩
  simp [mullCases, firstCase, Ne.symm hhi, Ne.symm hlo, Ne.symm hrs, Ne.symm hrm, h1, h2, h3]

/-! ## BX (44_arm_branch_system.md R376, 45_thumb_alu.md R432) -/

/-- T from bit 0 of the target, then the branch aligned for it, and the refill at the new width. -/
theorem exchange_core (s : State) (t : Word) :
    Core s (s.exchange t) [(.r15, alignPc (t.getLsbD 0) t)] (withT s.cpsr (t.getLsbD 0)) s.spsr.get
      (own s + refillAt s (t.getLsbD 0) (alignPc (t.getLsbD 0) t)) := by
  have hT : (withT s.cpsr (t.getLsbD 0)).getLsbD 5 = t.getLsbD 0 := by
    rw [withT, ← putBit5_append, putBit_getLsbD _ _ _ _ (by decide), if_pos rfl]
  have h := (((Core.fetched s).setCpsr (withT s.cpsr (t.getLsbD 0))).setPc (alignPc (t.getLsbD 0) t)).refill
  have hthumb : (({ s.fetched with cpsr := withT s.cpsr (t.getLsbD 0) } : State).setPc (alignPc (t.getLsbD 0) t)).thumb = t.getLsbD 0 := hT
  have hexchange : s.exchange t =
      (({ s.fetched with cpsr := withT s.cpsr (t.getLsbD 0) } : State).setPc (alignPc (t.getLsbD 0) t)).refill := by
    rw [State.exchange, State.branch]
    change State.refill (State.setPc { s.fetched with cpsr := putBit s.cpsr 5 (t.getLsbD 0) }
      (alignPc ((putBit s.cpsr 5 (t.getLsbD 0)).getLsbD 5) t)) = _
    rw [putBit5_append, ← withT, hT]
  rw [hthumb] at h
  rw [hexchange]
  exact Core.dropLast (w := [(.r15, alignPc (t.getLsbD 0) t)]) h (by simp)

theorem alignPc_eq_and (b : Bool) (v : Word) : alignPc b v = v &&& (if b then 0xFFFFFFFE#32 else 0xFFFFFFFC#32) := by
  cases b <;> rfl

/-- The case of a misaligned ARM target (R376). -/
theorem misaligned_eq_false {v : Word} (h : v.getLsbD 0 = false → v.getLsbD 1 = false) : (!v.getLsbD 0 && v.getLsbD 1) = false := by
  cases h0 : v.getLsbD 0 with
  | false => rw [h h0, Bool.and_false]
  | true => rfl

/-- Settles O38: the exchange, once no case stops it; the target's two masks are `alignPc`'s. -/
theorem branchExchange : Obligations.BranchExchange := by
  unfold Obligations.BranchExchange
  intro s c rm h1 t target
  have h := exchange_core s t
  rw [alignPc_eq_and] at h
  have hkept : MemoryKept s (s.exchange t) := h.memoryKept rfl rfl
  refine ⟨fun ⟨harm, hpass⟩ hpermits => ⟨_, (State.gate_passes hpass _).trans (State.guarded_of_permits hpermits ?_ _), h, hkept⟩,
    fun hthumb hpermits => ⟨_, State.guarded_of_permits hpermits ?_ _, h, hkept⟩⟩
  · rintro ⟨h15, hbit⟩
    rw [firstCase, decide_eq_false h15, misaligned_eq_false hbit]
    rfl
  · rintro ⟨hh1, hbit⟩
    rw [firstCase, hh1, misaligned_eq_false hbit]
    rfl

end Sys2Proof.Machine

end StatusAndMultiply

/-! # Single loads and stores and the swaps (43_arm_load_store.md R320 to R339, R360, R361, 46_thumb_load_store.md R452 to R468) -/

section SingleTransfers

open Sys2Proof.Claims Sys2Proof.Machine

namespace Sys2Proof.Claims

section Frame

variable {s t : State} {spsr : Mode → Option Word} {n : Nat}

/-- The fetch of an instruction that has charged its data accesses and written nothing yet. -/
theorem Core.fetchedAfter (h : Core s t [] s.cpsr spsr n) : Core s t.fetched [(.r15, s.pc + s.ilen)] s.cpsr spsr (n + own s) := by
  have hpc : t.pc = s.pc := h.pc_eq
  have hcharged := (h.charge .code .s t.fw t.pc).advance
  rw [State.fw_congr h.cpsr_eq, State.charge_pc, State.charge_ilen, State.ilen_congr h.cpsr_eq, hpc] at hcharged
  rw [State.fetched, State.fw_congr h.cpsr_eq, hpc]
  exact hcharged

theorem Core.writeBack_same {w : List (Phys × Word)} (h : Core s t w s.cpsr spsr n) (b : Bool) (i : Reg) (v : Word) :
    Core s (t.writeBack b i v) ((if b then [dest s i v] else []) ++ w) s.cpsr spsr n :=
  h.writeBack (State.mode_congr h.cpsr_eq) (State.thumb_congr h.cpsr_eq) b i v

/-- The refill after a branch that leaves the status word: at the program counter that is written. -/
theorem Core.refill_same {w : List (Phys × Word)} (h : Core s t w s.cpsr spsr n) :
    Core s t.refill w s.cpsr spsr (n + refillAt s s.thumb (valueIn w s.pc .r15)) := by
  rw [← State.thumb_congr h.cpsr_eq, ← h.pc_eq]
  exact h.refill

end Frame

/-! ## What a load issues and returns -/

theorem getLsbD_zero_eq (a : Word) : a.getLsbD 0 = decide (a.toNat % 2 = 1) := by
  rw [BitVec.getLsbD, Nat.testBit_zero]

theorem issued_eq (k : LoadKind) (a : Word) : issued k a = (k.addr a, k.width a) := by
  cases k with
  | word | byte | half | sbyte => rfl
  | shalf =>
    rw [issued, LoadKind.addr, LoadKind.width, getLsbD_zero_eq]
    split <;> simp [*]

theorem loaded_eq (s : State) (k : LoadKind) (a : Word) : loaded s k a = s.loadValue k a := by
  cases k with
  | byte | sbyte => rfl
  | word => exact (ror_rotateRight _ _).symm
  | half => exact (ror_rotateRight _ _).symm
  | shalf =>
    rw [loaded, State.loadValue, getLsbD_zero_eq]
    simp only [decide_eq_true_eq]

end Sys2Proof.Claims

namespace Sys2Proof.Machine

/-- A load that may be accessed: the data access, the fetch, one internal cycle, the write-back, then Rd (R320, R594). -/
theorem State.load_completes (s : State) (k : LoadKind) (a : Word) (rd : Reg) (wb : Bool) (rn : Reg) (back : Word)
    (hacc : accessFaults s.cfg (issued k a).1 (issued k a).2 = false) :
    ∃ t : State, s.load k a rd wb rn back = .next t ∧
      Core s t (dest s rd (loaded s k a) :: ((if wb then [dest s rn back] else []) ++ [(.r15, s.pc + s.ilen)])) s.cpsr s.spsr.get
        (s.costOf .data .n (issued k a).2 (issued k a).1 + own s + 1 +
          (if rd = 15 then refillAt s s.thumb (alignPc s.thumb (loaded s k a)) else 0)) ∧
      MemoryKept s t := by
  rw [issued_eq] at hacc ⊢
  have hback := ((((Core.refl s).charge .data .n (k.width a) (k.addr a)).fetchedAfter).internal 1).writeBack_same wb rn back
  have h := hback.setReg_same rd (loaded s k a)
  have hkept := h.memoryKept ((State.setReg_mem ..).trans (State.writeBack_mem ..)) ((State.setReg_ioEvents ..).trans (State.writeBack_ioEvents ..))
  rw [Nat.zero_add] at h
  rw [loaded_eq] at h hkept ⊢
  refine ⟨_, State.access_ok hacc _, ?_⟩
  by_cases h15 : rd = 15
  · subst h15
    have hrefill := h.refill_same
    rw [dest_15] at hrefill ⊢
    rw [if_pos rfl, if_pos rfl]
    exact ⟨hrefill, hkept⟩
  · rw [if_neg h15, if_neg h15]
    exact ⟨h, hkept⟩

/-! ## LDR, LDRB, STR and STRB with their T forms (R320 to R330) -/

section ArmForms

variable {s : State} {c : Cond}

/-- The UNPREDICTABLE cases of a word or byte transfer (R321, R323). -/
def wordCases (load byte : Bool) (m : Idx) (rn rd : Reg) (x : BitVec 12 ⊕ ImmShift) : List (Bool × Unpred) :=
  backCases load (backs m) rn rd ++
    (match x with | .inl _ => [] | .inr o => [(decide (o.rm = 15), .ldstRm15)]) ++
    (if load && byte then [(decide (rd = 15), .ldrbRd15)] else [])

theorem exec_loadWordOrByte (hpass : s.passes c = true) (byte : Bool) (m : Idx) (rn rd : Reg) (x : BitVec 12 ⊕ ImmShift) :
    exec (loadWordOrByte byte c m rn rd x) s = s.guarded (wordCases true byte m rn rd x)
      (s.loadIdx (if byte then .byte else .word) m rn rd (wordOffset s x)) := by
  obtain ⟨p, u, w⟩ := m
  cases byte <;> cases p <;> cases w <;> cases x <;> exact State.gate_passes hpass _

theorem exec_storeWordOrByte (hpass : s.passes c = true) (byte : Bool) (m : Idx) (rn rd : Reg) (x : BitVec 12 ⊕ ImmShift) :
    exec (storeWordOrByte byte c m rn rd x) s = s.guarded (wordCases false byte m rn rd x)
      (s.storeIdx (if byte then .byte else .word) m rn rd (wordOffset s x)) := by
  obtain ⟨p, u, w⟩ := m
  cases byte <;> cases p <;> cases w <;> cases x <;> exact State.gate_passes hpass _

/-- The UNPREDICTABLE cases of a halfword transfer (R335, R336). -/
def halfwordCases (load : Bool) (m : Idx) (rn rd : Reg) (x : BitVec 8 ⊕ Reg) : List (Bool × Unpred) :=
  halfCases m ++ (match x with | .inl _ => [] | .inr rm => [(decide (rm = 15), .halfRm15)]) ++ backCases load (backs m) rn rd ++
    (if load then [(decide (rd = 15), .ldrhRd15)] else [])

theorem exec_halfLoad (hpass : s.passes c = true) (h : HalfLoad) (m : Idx) (rn rd : Reg) (x : BitVec 8 ⊕ Reg) :
    exec (h.instr c m rn rd x) s = s.guarded (halfwordCases true m rn rd x) (s.loadIdx h.kind m rn rd (halfOffset s x)) := by
  cases h <;> cases x <;> exact State.gate_passes hpass _

theorem exec_storeHalf (hpass : s.passes c = true) (m : Idx) (rn rd : Reg) (x : BitVec 8 ⊕ Reg) :
    exec (storeHalf c m rn rd x) s = s.guarded (halfwordCases false m rn rd x) (s.storeIdx .half m rn rd (halfOffset s x)) := by
  cases x <;> exact State.gate_passes hpass _

theorem mem_wordCases {load byte : Bool} {m : Idx} {rn rd : Reg} {x : BitVec 12 ⊕ ImmShift} {u : Unpred}
    (h : (true, u) ∈ wordCases load byte m rn rd x) :
    (u = .ldstWbRn15 ∧ writesBack m = true ∧ rn = 15) ∨ (u = .ldrWbRnEqRd ∧ load = true ∧ writesBack m = true ∧ rn = rd) ∨
      (u = .ldstRm15 ∧ ∃ o, x = .inr o ∧ o.rm = 15) ∨ (u = .ldrbRd15 ∧ load = true ∧ byte = true ∧ rd = 15) := by
  simp only [wordCases, List.mem_append] at h
  rcases h with (h | h) | h
  · simp only [backCases, List.mem_cons, List.not_mem_nil, or_false, Prod.mk.injEq, Bool.true_eq, Bool.and_eq_true, decide_eq_true_eq] at h
    rcases h with ⟨⟨hwb, h15⟩, hu⟩ | ⟨⟨⟨hload, hwb⟩, heq⟩, hu⟩
    · exact .inl ⟨hu, hwb, h15⟩
    · exact .inr (.inl ⟨hu, hload, hwb, heq⟩)
  · cases x with
    | inl => cases h
    | inr o =>
      simp only [List.mem_singleton, Prod.mk.injEq, Bool.true_eq, decide_eq_true_eq] at h
      exact .inr (.inr (.inl ⟨h.2, o, rfl, h.1⟩))
  · split at h
    · next hlb =>
      simp only [List.mem_singleton, Prod.mk.injEq, Bool.true_eq, decide_eq_true_eq] at h
      obtain ⟨hload, hbyte⟩ := Bool.and_eq_true_iff.mp hlb
      exact .inr (.inr (.inr ⟨h.2, hload, hbyte, h.1⟩))
    · cases h

theorem mem_halfwordCases {load : Bool} {m : Idx} {rn rd : Reg} {x : BitVec 8 ⊕ Reg} {u : Unpred}
    (h : (true, u) ∈ halfwordCases load m rn rd x) :
    (u = .halfPostW ∧ m.p = false ∧ m.w = true) ∨ (u = .halfRm15 ∧ x = .inr 15) ∨ (u = .ldstWbRn15 ∧ writesBack m = true ∧ rn = 15) ∨
      (u = .ldrWbRnEqRd ∧ load = true ∧ writesBack m = true ∧ rn = rd) ∨ (u = .ldrhRd15 ∧ load = true ∧ rd = 15) := by
  simp only [halfwordCases, List.mem_append] at h
  rcases h with ((h | h) | h) | h
  · simp only [halfCases, List.mem_singleton, Prod.mk.injEq, Bool.true_eq, Bool.and_eq_true, Bool.not_eq_true'] at h
    exact .inl ⟨h.2, h.1⟩
  · cases x with
    | inl => cases h
    | inr rm =>
      simp only [List.mem_singleton, Prod.mk.injEq, Bool.true_eq, decide_eq_true_eq] at h
      exact .inr (.inl ⟨h.2, congrArg _ h.1⟩)
  · simp only [backCases, List.mem_cons, List.not_mem_nil, or_false, Prod.mk.injEq, Bool.true_eq, Bool.and_eq_true, decide_eq_true_eq] at h
    rcases h with ⟨⟨hwb, h15⟩, hu⟩ | ⟨⟨⟨hload, hwb⟩, heq⟩, hu⟩
    · exact .inr (.inr (.inl ⟨hu, hwb, h15⟩))
    · exact .inr (.inr (.inr (.inl ⟨hu, hload, hwb, heq⟩)))
  · cases load with
    | false => cases h
    | true =>
      simp only [if_true, List.mem_singleton, Prod.mk.injEq, Bool.true_eq, decide_eq_true_eq] at h
      exact .inr (.inr (.inr (.inr ⟨h.2, rfl, h.1⟩)))

theorem firstCase_of_not_mem {cs : List (Bool × Unpred)} (h : ∀ u, (true, u) ∉ cs) : firstCase cs = none := by
  refine firstCase_none fun x hx => ?_
  obtain ⟨b, u⟩ := x
  cases b with
  | false => rfl
  | true => exact absurd hx (h u)

theorem firstCase_wordCases {load byte : Bool} {m : Idx} {rn rd : Reg} {x : BitVec 12 ⊕ ImmShift} (h : wordRegular load byte m rn rd x) :
    firstCase (wordCases load byte m rn rd x) = none := by
  obtain ⟨h15, heq, hrm, hrd⟩ := h
  refine firstCase_of_not_mem fun u hu => ?_
  rcases mem_wordCases hu with ⟨-, hwb, h⟩ | ⟨-, hload, hwb, h⟩ | ⟨-, o, hx, h⟩ | ⟨-, hload, hbyte, h⟩
  · exact h15 hwb h
  · exact heq hload hwb h
  · exact hrm o hx h
  · exact hrd hload hbyte h

theorem firstCase_halfwordCases {load : Bool} {m : Idx} {rn rd : Reg} {x : BitVec 8 ⊕ Reg} (h : halfRegular load m rn rd x) :
    firstCase (halfwordCases load m rn rd x) = none := by
  obtain ⟨hpost, h15, heq, hrm, hrd⟩ := h
  refine firstCase_of_not_mem fun u hu => ?_
  rcases mem_halfwordCases hu with ⟨-, hp, hw⟩ | ⟨-, hx⟩ | ⟨-, hwb, h⟩ | ⟨-, hload, hwb, h⟩ | ⟨-, hload, h⟩
  · exact Bool.false_ne_true ((hpost hp).symm.trans hw)
  · exact hrm 15 hx rfl
  · exact h15 hwb h
  · exact heq hload hwb h
  · exact hrd hload h

/-- An ARM load with its addressing (R320). -/
theorem loadRuns_of_loadIdx {i : Instr} {k : LoadKind} {m : Idx} {rn rd : Reg} {offset : Word} (harm : s.thumb = false)
    (hi : exec i s = s.loadIdx k m rn rd offset)
    (hacc : accessFaults s.cfg (issued k (transferAddress m (s.reg rn) offset)).1 (issued k (transferAddress m (s.reg rn) offset)).2 = false) :
    LoadRuns i s k m rn rd offset := by
  obtain ⟨t, ht, hcore, hkept⟩ := s.load_completes k (transferAddress m (s.reg rn) offset) rd (writesBack m) rn
    (offsetAddress m (s.reg rn) offset) hacc
  rw [State.ilen_arm harm, harm] at hcore
  exact ⟨t, hi.trans ht, hcore, hkept⟩

/-- An ARM store with its addressing (R320). -/
theorem storeRuns_of_storeIdx {i : Instr} {k : StoreKind} {m : Idx} {rn rd : Reg} {offset : Word} (harm : s.thumb = false)
    (hi : exec i s = s.storeIdx k m rn rd offset) (hm : s.mem.wf = true)
    (hacc : accessFaults s.cfg (storeAt k (transferAddress m (s.reg rn) offset)).1 (storeAt k (transferAddress m (s.reg rn) offset)).2 = false) :
    StoreRuns i s k m rn rd offset := by
  obtain ⟨t, ht, hcore, hstores⟩ := s.store_completes k (transferAddress m (s.reg rn) offset) (s.regLate rd) (writesBack m) rn
    (offsetAddress m (s.reg rn) offset) hacc hm
  rw [registersAfterStore, State.ilen_arm harm] at hcore
  exact ⟨t, hi.trans ht, hcore, hstores⟩

end ArmForms

/-- Settles O30: every form is one load with its addressing, which no case of a regular form stops. -/
theorem loads : Obligations.Loads := by
  unfold Obligations.Loads
  rintro s byte c m rn rd x ⟨harm, hpass⟩ hpermits k e hacc
  exact loadRuns_of_loadIdx harm
    ((exec_loadWordOrByte hpass byte m rn rd x).trans (State.guarded_of_permits hpermits firstCase_wordCases _)) hacc

/-- Settles O31: as the word and byte loads, by the kind of each form. -/
theorem halfwordLoads : Obligations.HalfwordLoads := by
  unfold Obligations.HalfwordLoads
  rintro s h c m rn rd x ⟨harm, hpass⟩ hpermits e hacc
  exact loadRuns_of_loadIdx harm
    ((exec_halfLoad hpass h m rn rd x).trans (State.guarded_of_permits hpermits firstCase_halfwordCases _)) hacc

/-- Settles O32: every form is one store with its addressing, which no case of a regular form stops. -/
theorem stores : Obligations.Stores := by
  unfold Obligations.Stores
  constructor
  · rintro s byte c m rn rd x ⟨harm, hpass⟩ hm hpermits k e hacc
    exact storeRuns_of_storeIdx harm
      ((exec_storeWordOrByte hpass byte m rn rd x).trans (State.guarded_of_permits hpermits firstCase_wordCases _)) hm hacc
  · rintro s c m rn rd x ⟨harm, hpass⟩ hm hpermits e hacc
    exact storeRuns_of_storeIdx harm
      ((exec_storeHalf hpass m rn rd x).trans (State.guarded_of_permits hpermits firstCase_halfwordCases _)) hm hacc

/-! ## The Thumb loads -/

theorem thumbLoads_of_thumbLoad {s : State} {i : Instr} {k : LoadKind} {a : Word} {rd : LoReg} (hthumb : s.thumb = true)
    (hi : exec i s = s.thumbLoad k a rd) : ThumbLoads i s k a rd := by
  intro hacc
  obtain ⟨t, ht, hcore, hkept⟩ := s.load_completes k a rd.toReg false 0 0 hacc
  rw [dest_toReg, State.ilen_thumb hthumb, if_neg (LoReg.toReg_ne_15 rd)] at hcore
  exact ⟨t, hi.trans ht, hcore, hkept⟩

/-- Settles O43: each form is one load of a low register at its address; the scaled offsets are the model's. -/
theorem thumbLoadForms : Obligations.ThumbLoadForms := by
  unfold Obligations.ThumbLoadForms
  intro s ro rb rd off5 off8 hthumb
  rw [← times4_eq, ← times4_eq, ← times2_eq]
  exact ⟨thumbLoads_of_thumbLoad hthumb rfl, thumbLoads_of_thumbLoad hthumb rfl, thumbLoads_of_thumbLoad hthumb rfl,
    thumbLoads_of_thumbLoad hthumb rfl, thumbLoads_of_thumbLoad hthumb rfl, thumbLoads_of_thumbLoad hthumb rfl,
    thumbLoads_of_thumbLoad hthumb rfl, thumbLoads_of_thumbLoad hthumb rfl, thumbLoads_of_thumbLoad hthumb rfl,
    thumbLoads_of_thumbLoad hthumb rfl⟩

/-! ## The swaps (R360, R361) -/

/-- A swap that may be accessed: the value read, the value written and the two charges, in one step (R596). -/
theorem State.swapAt_completes (s : State) (k : LoadKind) (w : StoreKind) (a : Word) (rd rm : Reg)
    (hacc : accessFaults s.cfg (storeAt w a).1 (storeAt w a).2 = false) (hm : s.mem.wf = true) :
    ∃ t : State, s.swapAt k w a rd rm = .next t ∧
      Core s t [dest s rd (loaded s k a), (.r15, s.pc + s.ilen)] s.cpsr s.spsr.get
        (s.costOf .data .n (storeAt w a).2 (storeAt w a).1 + s.costOf .data .n (storeAt w a).2 (storeAt w a).1 + own s + 1) ∧
      StoresTo s t (storeAt w a).2 (storeAt w a).1 (s.reg rm) := by
  rw [StoreKind.storeAt_eq] at hacc ⊢
  have hcharged := ((Core.refl s).charge .data .n w.width (w.addr a)).charge .data .n w.width (w.addr a)
  rw [Nat.zero_add] at hcharged
  have hstored := ((((s.charge .data .n w.width (w.addr a)).charge .data .n w.width (w.addr a)).fetched).internal 1).storeValue_storesTo
    w a (s.reg rm) hm
  refine ⟨_, State.access_ok hacc _, ?_, ?_⟩
  · rw [loaded_eq]
    exact ((hcharged.fetchedAfter.internal 1).storeValue w a (s.reg rm)).setReg_same rd _
  · exact StoresTo.congr (s := s) hstored (State.setReg_cfg ..) (State.setReg_mem ..) (State.setReg_ioEvents ..)

/-- SWP and SWPB are one swap behind the cases of R360. -/
theorem exec_swap {s : State} {c : Cond} (hpass : s.passes c = true) (byte : Bool) (rn rd rm : Reg) :
    exec (if byte then .swpb c rn rd rm else .swp c rn rd rm) s = s.guarded (swapCases rn rd rm)
      (s.swapAt (if byte then .byte else .word) (if byte then .byte else .word) (s.reg rn) rd rm) := by
  cases byte <;> exact State.gate_passes hpass _

theorem firstCase_swapCases {rn rd rm : Reg} (h : rn ≠ 15 ∧ rd ≠ 15 ∧ rm ≠ 15 ∧ rn ≠ rd ∧ rn ≠ rm) :
    firstCase (swapCases rn rd rm) = none := by
  obtain ⟨hn, hd, hm, hnd, hnm⟩ := h
  simp [swapCases, firstCase, Ne.symm hn, Ne.symm hd, Ne.symm hm, hnd, hnm]

/-- Settles O33: both are one swap of the word or the byte, which no case of a regular form stops. -/
theorem swaps : Obligations.Swaps := by
  unfold Obligations.Swaps
  rintro s byte c rn rd rm ⟨harm, hpass⟩ hm hpermits k e hacc
  obtain ⟨t, ht, hcore, hstores⟩ := s.swapAt_completes (if byte then .byte else .word) k (s.reg rn) rd rm hacc hm
  rw [State.ilen_arm harm] at hcore
  exact ⟨t, ((exec_swap hpass byte rn rd rm).trans (State.guarded_of_permits hpermits firstCase_swapCases _)).trans ht, hcore, hstores⟩

end Sys2Proof.Machine

end SingleTransfers

/-! # Block transfers (43_arm_load_store.md R345 to R357, 46_thumb_load_store.md R471, R473) -/

section BlockTransfers

open Sys2Proof.Claims Sys2Proof.Machine

namespace Sys2Proof.Claims

/-! ## Lists of writes: where no register is listed twice the order does not count -/

section Lists

variable {w l : List (Phys × Word)} {old : Word} {p : Phys}

theorem valueIn_of_not_mem (h : p ∉ w.map Prod.fst) : valueIn w old p = old := by
  induction w with
  | nil => rfl
  | cons e w ih =>
    rw [List.map_cons, List.mem_cons, not_or] at h
    rw [valueIn, if_neg h.1, ih h.2]

theorem valueIn_of_nodup {v : Word} (hnd : (w.map Prod.fst).Nodup) (h : (p, v) ∈ w) : valueIn w old p = v := by
  induction w with
  | nil => cases h
  | cons e w ih =>
    rw [List.map_cons, List.nodup_cons] at hnd
    rcases List.mem_cons.mp h with he | htail
    · rw [← he, valueIn, if_pos rfl]
    · have hne : p ≠ e.1 := fun he => hnd.1 (he ▸ List.mem_map_of_mem htail)
      rw [valueIn, if_neg hne, ih hnd.2 htail]

theorem valueIn_reverse (hnd : (w.map Prod.fst).Nodup) : valueIn w.reverse old p = valueIn w old p := by
  by_cases h : p ∈ w.map Prod.fst
  · obtain ⟨⟨q, v⟩, hmem, rfl⟩ := List.mem_map.mp h
    rw [valueIn_of_nodup hnd hmem, valueIn_of_nodup (by rwa [List.map_reverse, List.nodup_reverse]) (List.mem_reverse.mpr hmem)]
  · rw [valueIn_of_not_mem h, valueIn_of_not_mem (by rwa [List.map_reverse, List.mem_reverse])]

theorem Core.congrWrites {s t : State} {cpsr : Word} {spsr : Mode → Option Word} {n : Nat} (h : Core s t w cpsr spsr n)
    (hw : ∀ q, valueIn w (s.regs.get q) q = valueIn l (s.regs.get q) q) : Core s t l cpsr spsr n := by
  obtain ⟨hregs, hrest⟩ := h
  exact ⟨fun q => (hregs q).trans (hw q), hrest⟩

end Lists

/-! ## The loads of a block (R347) -/

/-- The writes of the loads `ps` of a block: each register its word. -/
def pairWrites (s : State) (user : Bool) (ps : List (Reg × Word)) : List (Phys × Word) :=
  ps.map fun x => if user then destUser s x.1 (s.read32 x.2) else dest s x.1 (s.read32 x.2)

theorem blockLoads_eq_pairWrites (s : State) (user : Bool) (rs : List Reg) (as : List Word) :
    blockLoads s user rs as = pairWrites s user (rs.zip as) := rfl

theorem dest_fst (s : State) (i : Reg) (v : Word) : (dest s i v).1 = phys s.mode i := by
  rw [dest]
  split
  · next h => rw [h, phys_15]
  · rfl

theorem destUser_fst (s : State) (i : Reg) (v : Word) : (destUser s i v).1 = phys .usr i := by
  rw [destUser]
  split
  · next h => rw [h, phys_15]
  · rfl

/-- A block's registers are distinct, and the bank map is injective. -/
theorem pairWrites_nodup (s : State) (user : Bool) {ps : List (Reg × Word)} (hnd : (ps.map Prod.fst).Nodup) :
    ((pairWrites s user ps).map Prod.fst).Nodup := by
  have hkeys : (pairWrites s user ps).map Prod.fst = (ps.map Prod.fst).map (phys (if user then .usr else s.mode)) := by
    rw [pairWrites, List.map_map, List.map_map]
    refine List.map_congr_left fun x _ => ?_
    cases user
    · exact dest_fst s x.1 _
    · exact destUser_fst s x.1 _
  rw [hkeys]
  exact hnd.map fun i j h => (phys_inj _ i j).mp h

section Frame

variable {s t : State} {w : List (Phys × Word)} {spsr : Mode → Option Word} {n : Nat}

theorem destUser_15 (s : State) (v : Word) : destUser s 15 v = (.r15, alignPc s.thumb v) := dest_15 s v

theorem Core.putReg_same (h : Core s t w s.cpsr spsr n) (user : Bool) (i : Reg) (v : Word) :
    Core s (t.putReg user i v) ((if user then destUser s i v else dest s i v) :: w) s.cpsr spsr n := by
  cases user with
  | false => exact h.setReg_same i v
  | true =>
    rw [if_pos rfl, State.putReg, if_pos rfl, State.setUserReg]
    by_cases h15 : i = 15
    · subst h15
      rw [if_pos rfl, destUser_15, State.branch, State.thumb_congr h.cpsr_eq]
      exact h.setPc _
    · rw [if_neg h15, destUser, if_neg h15]
      obtain ⟨hregs, hrest⟩ := h
      exact ⟨hregs.set _ v rfl, hrest⟩

theorem State.read32_congr {s t : State} (hc : t.cfg = s.cfg) (hm : t.mem = s.mem) (a : Word) : t.read32 a = s.read32 a := by
  simp only [State.read32, State.read8_congr hc hm]

/-- The later loads of a block override the earlier ones; no load changes memory. -/
theorem Core.loadRegs_reverse (h : Core s t w s.cpsr spsr n) (hmem : t.mem = s.mem) (user : Bool) (ps : List (Reg × Word)) :
    Core s (t.loadRegs user ps) ((pairWrites s user ps).reverse ++ w) s.cpsr spsr n := by
  induction ps generalizing t w with
  | nil => exact h
  | cons x ps ih =>
    obtain ⟨-, -, -, hcfg, -⟩ := h.rest
    have hput := ih (h.putReg_same user x.1 (s.read32 x.2)) ((State.putReg_mem ..).trans hmem)
    rw [State.loadRegs, State.read32_congr hcfg hmem]
    rw [pairWrites, List.map_cons, List.reverse_cons, List.append_assoc]
    exact hput

theorem Core.loadRegs (h : Core s t w s.cpsr spsr n) (hmem : t.mem = s.mem) (user : Bool) {ps : List (Reg × Word)}
    (hnd : (ps.map Prod.fst).Nodup) : Core s (t.loadRegs user ps) (pairWrites s user ps ++ w) s.cpsr spsr n := by
  refine (h.loadRegs_reverse hmem user ps).congrWrites fun q => ?_
  rw [valueIn_append, valueIn_append, valueIn_reverse (pairWrites_nodup s user hnd)]

end Frame

end Sys2Proof.Claims

namespace Sys2Proof.Machine

theorem blockPairs_fst (a : Word) (rs : List Reg) : (blockPairs a rs).map Prod.fst = rs := by
  rw [blockPairs_eq_zip]
  exact List.map_fst_zip (by rw [wordsFrom, List.length_map, List.length_range])

theorem registers_nodup (list : BitVec 16) : (registers list).Nodup := (List.nodup_finRange 16).filter _

theorem mem_registers {list : BitVec 16} {i : Reg} : i ∈ registers list ↔ list.getLsbD i.val = true := by
  rw [registers, List.mem_filter]
  exact and_iff_right (List.mem_finRange i)

theorem blockStart_eq_blockFrom (m : Idx) (base : Word) (rs : List Reg) : blockStart m base rs = blockFrom m base rs.length := by
  obtain ⟨p, u, w⟩ := m
  cases p <;> cases u <;> rfl

theorem blockBase_eq_blockEnd (m : Idx) (base : Word) (rs : List Reg) : blockBase m base rs = blockEnd m base rs.length := rfl

/-- The charges of the words `ps` of a block, the write-back and the loads `low`: where a block load stops that has not fetched yet. -/
def State.loadStuck (s : State) (user wb : Bool) (rn : Reg) (back : Word) (ps low : List (Reg × Word)) : State :=
  ((s.chargeBlock .n ps).writeBack wb rn back).loadRegs user low

theorem loadStuck_core (s : State) (user wb : Bool) (rn : Reg) (back : Word) (ps : List (Reg × Word)) {low : List (Reg × Word)}
    (hnd : (low.map Prod.fst).Nodup) :
    Core s (s.loadStuck user wb rn back ps low) (pairWrites s user low ++ (if wb then [dest s rn back] else [])) s.cpsr s.spsr.get
      (blockCost s (ps.map Prod.snd)) ∧ MemoryKept s (s.loadStuck user wb rn back ps low) := by
  obtain ⟨-, -, -, hmem, -, -, hio, -⟩ := State.chargeBlock_keeps ps s .n
  obtain ⟨-, -, hlmem, -, -, -, -, hlio, -⟩ := State.loadRegs_keeps low ((s.chargeBlock .n ps).writeBack wb rn back) user
  have hcharged := (Core.refl s).chargeBlock ps
  rw [Nat.zero_add] at hcharged
  have hback := hcharged.writeBack_same wb rn back
  rw [List.append_nil] at hback
  have h := hback.loadRegs ((State.writeBack_mem ..).trans hmem) user hnd
  exact ⟨h, h.memoryKept (hlmem.trans ((State.writeBack_mem ..).trans hmem)) (hlio.trans ((State.writeBack_ioEvents ..).trans hio))⟩

/-- The same with the fetch and the internal cycle before the write-back (R595). -/
def State.loadDone (s : State) (user wb : Bool) (rn : Reg) (back : Word) (ps low : List (Reg × Word)) : State :=
  (((s.chargeBlock .n ps).fetched.internal 1).writeBack wb rn back).loadRegs user low

theorem loadDone_core (s : State) (user wb : Bool) (rn : Reg) (back : Word) (ps : List (Reg × Word)) {low : List (Reg × Word)}
    (hnd : (low.map Prod.fst).Nodup) :
    Core s (s.loadDone user wb rn back ps low)
      (pairWrites s user low ++ ((if wb then [dest s rn back] else []) ++ [(.r15, s.pc + s.ilen)])) s.cpsr s.spsr.get
      (blockCost s (ps.map Prod.snd) + own s + 1) ∧ MemoryKept s (s.loadDone user wb rn back ps low) := by
  obtain ⟨-, -, -, hmem, -, -, hio, -⟩ := State.chargeBlock_keeps ps s .n
  obtain ⟨-, -, hlmem, -, -, -, -, hlio, -⟩ :=
    State.loadRegs_keeps low (((s.chargeBlock .n ps).fetched.internal 1).writeBack wb rn back) user
  have hcharged := (Core.refl s).chargeBlock ps
  rw [Nat.zero_add] at hcharged
  have h := ((hcharged.fetchedAfter.internal 1).writeBack_same wb rn back).loadRegs ((State.writeBack_mem ..).trans hmem) user hnd
  exact ⟨h, h.memoryKept (hlmem.trans ((State.writeBack_mem ..).trans hmem)) (hlio.trans ((State.writeBack_ioEvents ..).trans hio))⟩

/-- A block load whose words may all be accessed (R347, R595). -/
theorem State.loadBlock_completes (s : State) (user early : Bool) (start : Word) {rs : List Reg} (wb : Bool) (rn : Reg) (back : Word)
    (hnd : rs.Nodup) (hacc : Accessible s (wordsFrom start rs.length)) :
    let w := blockLoads s user rs (wordsFrom start rs.length) ++ ((if wb then [dest s rn back] else []) ++ [(.r15, s.pc + s.ilen)])
    ∃ t : State, s.loadBlock user early start rs wb rn back = .next t ∧
      Core s t w s.cpsr s.spsr.get (blockCost s (wordsFrom start rs.length) + own s + 1 +
        (if (15 : Reg) ∈ rs then refillAt s s.thumb (valueIn w s.pc .r15) else 0)) ∧ MemoryKept s t := by
  intro w
  obtain ⟨h, hkept⟩ := loadDone_core s user wb rn back (blockPairs start rs) (low := blockPairs start rs) (by rwa [blockPairs_fst])
  rw [blockPairs_snd] at h
  have hw : pairWrites s user (blockPairs start rs) ++ ((if wb then [dest s rn back] else []) ++ [(.r15, s.pc + s.ilen)]) = w := by
    rw [blockPairs_eq_zip]; rfl
  rw [hw] at h
  refine ⟨_, State.accessBlock_ok (blockFaults_of_accessible hacc) _ _, ?_⟩
  by_cases h15 : (15 : Reg) ∈ rs
  · rw [if_pos h15, if_pos h15]
    exact ⟨h.refill_same, hkept⟩
  · rw [if_neg h15, if_neg h15]
    exact ⟨h, hkept⟩

/-! ## The ARM forms -/

section ArmForms

variable {s : State} {c : Cond}

/-- The UNPREDICTABLE cases of a block transfer, the user-bank ones with two more (R346). -/
def blockTransferCases (s : State) (user : Bool) (m : Idx) (rn : Reg) (list : BitVec 16) : List (Bool × Unpred) :=
  blockCases rn list ++ if user then s.userCases m else []

theorem exec_loadMultiple (hpass : s.passes c = true) (user : Bool) (m : Idx) (rn : Reg) (list : BitVec 16) :
    exec (if user then .ldmUser c m rn list else .ldm c m rn list) s =
      s.guarded (blockTransferCases s user m rn list) (s.ldmIdx user m rn list) := by
  cases user <;> exact State.gate_passes hpass _

theorem exec_storeMultiple (hpass : s.passes c = true) (user : Bool) (m : Idx) (rn : Reg) (list : BitVec 16) :
    exec (if user then .stmUser c m rn list else .stm c m rn list) s =
      s.guarded (blockTransferCases s user m rn list) (s.stmIdx user m rn list) := by
  cases user <;> exact State.gate_passes hpass _

theorem exec_ldmRet (hpass : s.passes c = true) (m : Idx) (rn : Reg) (list : BitVec 16) :
    exec (.ldmRet c m rn list) s = s.guarded (blockCases rn list)
      (s.loadReturn (blockStart m (s.reg rn) (registers list)) (registers list) (blockBack m rn) rn (blockBase m (s.reg rn) (registers list))) :=
  State.gate_passes hpass _

theorem mem_blockTransferCases {user : Bool} {m : Idx} {rn : Reg} {list : BitVec 16} {u : Unpred}
    (h : (true, u) ∈ blockTransferCases s user m rn list) :
    (u = .ldmRn15 ∧ rn = 15) ∨ (u = .ldmEmpty ∧ list = 0) ∨ (u = .ldmUserInUsr ∧ user = true ∧ s.mode = .usr) ∨
      (u = .ldmUserWb ∧ user = true ∧ m.w = true) := by
  rw [blockTransferCases, List.mem_append] at h
  rcases h with h | h
  · simp only [blockCases, List.mem_cons, List.not_mem_nil, or_false, Prod.mk.injEq, Bool.true_eq, decide_eq_true_eq] at h
    rcases h with ⟨h15, hu⟩ | ⟨h0, hu⟩
    · exact .inl ⟨hu, h15⟩
    · exact .inr (.inl ⟨hu, h0⟩)
  · cases user with
    | false => cases h
    | true =>
      simp only [if_true, State.userCases, List.mem_cons, List.not_mem_nil, or_false, Prod.mk.injEq, Bool.true_eq, decide_eq_true_eq]
        at h
      rcases h with ⟨husr, hu⟩ | ⟨hw, hu⟩
      · exact .inr (.inr (.inl ⟨hu, rfl, husr⟩))
      · exact .inr (.inr (.inr ⟨hu, rfl, hw⟩))

theorem firstCase_blockTransferCases {user : Bool} {m : Idx} {rn : Reg} {list : BitVec 16}
    (h : rn ≠ 15 ∧ list ≠ 0 ∧ (user = true → s.mode ≠ .usr ∧ m.w = false)) :
    firstCase (blockTransferCases s user m rn list) = none := by
  obtain ⟨h15, h0, huser⟩ := h
  refine firstCase_of_not_mem fun u hu => ?_
  rcases mem_blockTransferCases hu with ⟨-, h⟩ | ⟨-, h⟩ | ⟨-, hb, h⟩ | ⟨-, hb, h⟩
  · exact h15 h
  · exact h0 h
  · exact (huser hb).1 h
  · exact Bool.false_ne_true ((huser hb).2.symm.trans h)

/-- Without its bit 15 the list would not be the return's, so it is not empty (R357). -/
theorem firstCase_blockCases_of_bit15 {rn : Reg} {list : BitVec 16} (hlist : list.getLsbD 15 = true) (h : rn ≠ 15) :
    firstCase (blockCases rn list) = none := by
  have h0 : list ≠ 0 := by rintro rfl; cases hlist
  rw [blockCases, firstCase, decide_eq_false h, decide_eq_false h0]
  rfl

theorem blockBack_eq (m : Idx) (rn : Reg) : blockBack m rn = decide (m.w = true ∧ rn ≠ 15) := by
  rw [blockBack, Bool.decide_and, Bool.decide_eq_true]

end ArmForms

/-- Settles O34: the block load with an early write-back, at the addresses of the four modes. -/
theorem loadMultiple : Obligations.LoadMultiple := by
  unfold Obligations.LoadMultiple
  rintro s user c m rn list ⟨harm, hpass⟩ - hpermits rs as w hacc
  obtain ⟨t, ht, hcore, hkept⟩ := s.loadBlock_completes user true (blockFrom m (s.reg rn) rs.length) (blockBack m rn) rn
    (blockEnd m (s.reg rn) rs.length) (registers_nodup list) hacc
  have hexec : exec (if user then .ldmUser c m rn list else .ldm c m rn list) s = .next t := by
    rw [exec_loadMultiple hpass, State.guarded_of_permits hpermits firstCase_blockTransferCases, ← ht, ← blockStart_eq_blockFrom,
      ← blockBase_eq_blockEnd]
    rfl
  refine ⟨t, hexec, ?_, hkept⟩
  simp only [blockBack_eq, decide_eq_true_eq, State.ilen_arm harm, harm, mem_registers, ← List.append_assoc] at hcore
  exact hcore

/-- Settles O35: the block store, whose values are `blockValue`'s. -/
theorem storeMultiple : Obligations.StoreMultiple := by
  unfold Obligations.StoreMultiple
  rintro s user c m rn list ⟨harm, hpass⟩ hm hpermits rs as wb back w hacc
  obtain ⟨t, ht, hcore, hstores⟩ := s.storeBlock_completes user false (blockFrom m (s.reg rn) rs.length) rs wb rn back hacc hm
  have hexec : exec (if user then .stmUser c m rn list else .stm c m rn list) s = .next t := by
    rw [exec_storeMultiple hpass, State.guarded_of_permits hpermits firstCase_blockTransferCases, ← ht, ← blockStart_eq_blockFrom,
      State.stmIdx, blockBack_eq]
    rfl
  rw [registersAfterStore, State.ilen_arm harm] at hcore
  exact ⟨t, hexec, hcore, hstores⟩

/-! ## The exception-return LDM (R357) -/

/-- A list that holds register 15 ends in it. -/
theorem registers_of_bit15 {list : BitVec 16} (h : list.getLsbD 15 = true) :
    registers list = ((registers list).filter fun i => decide (i ≠ 15)) ++ [15] := by
  have hlast : List.finRange 16 = (List.finRange 16).dropLast ++ [15] := by decide
  have hne : ∀ i ∈ (List.finRange 16).dropLast, i ≠ (15 : Reg) := by decide
  have h15 : ([15] : List Reg).filter (fun i => list.getLsbD i.val) = [15] := List.filter_eq_self.mpr (by simpa using h)
  have hnil : ([15] : List Reg).filter (fun i => decide (i ≠ 15)) = [] := by decide
  have hlow : ((List.finRange 16).dropLast.filter fun i => list.getLsbD i.val).filter (fun i => decide (i ≠ 15)) =
      (List.finRange 16).dropLast.filter fun i => list.getLsbD i.val :=
    List.filter_eq_self.mpr fun i hi => decide_eq_true (hne i (List.mem_of_mem_filter hi))
  rw [registers, hlast, List.filter_append, h15, List.filter_append, hlow, hnil,
    List.append_nil]

theorem wordsFrom_append_last (a : Word) (n : Nat) :
    wordsFrom a (n + 1) = wordsFrom a n ++ [alignWord (a + BitVec.ofNat 32 (4 * n))] := by
  rw [wordsFrom, List.range_succ, List.map_append, wordsFrom]
  rfl

theorem wordsFrom_length (a : Word) (n : Nat) : (wordsFrom a n).length = n := by rw [wordsFrom, List.length_map, List.length_range]

section Return

variable {s : State} {rs low : List Reg} (start : Word)

/-- The loads of a list that ends in register 15: those of the rest, and the last word, which is not rotated. -/
theorem blockLoads_append_15 (s : State) (low : List Reg) :
    blockLoads s false (low ++ [15]) (wordsFrom start (low ++ [15]).length) = pairWrites s false (blockPairs start low) ++
      [dest s 15 (s.read32 (alignWord (start + blockBytes low)))] := by
  rw [List.length_append, List.length_singleton, wordsFrom_append_last, blockLoads_eq_pairWrites,
    List.zip_append (wordsFrom_length start low.length).symm, blockPairs_eq_zip]
  simp only [pairWrites, List.map_append]
  rfl

/-- What the return has loaded, once the program counter is written: neither the last word nor the following address counts. -/
theorem valueIn_return (low : List Reg) (target next : Word) (wb : List (Phys × Word)) (old : Word) (q : Phys) :
    valueIn ((.r15, target) :: (pairWrites s false (blockPairs start low) ++ (wb ++ [(.r15, next)]))) old q =
      valueIn ([(.r15, target)] ++ blockLoads s false (low ++ [15]) (wordsFrom start (low ++ [15]).length) ++ wb) old q := by
  rw [blockLoads_append_15, dest_15, List.append_assoc, List.append_assoc, List.singleton_append, valueIn, valueIn]
  by_cases h : q = .r15
  · rw [if_pos h, if_pos h]
  · simp only [if_neg h, valueIn_append, valueIn]

end Return

/-- The return whose words may all be accessed (R357): the loads but that of register 15, then the return to the last word. -/
theorem State.loadReturn_ok {s : State} {start : Word} {rs : List Reg} (hacc : Accessible s (wordsFrom start rs.length)) (wb : Bool)
    (rn : Reg) (back : Word) :
    s.loadReturn start rs wb rn back =
      (s.loadDone false wb rn back (blockPairs start rs) (blockPairs start (rs.filter fun i => decide (i ≠ 15)))).exceptionReturn
        (s.loadStuck false wb rn back (blockPairs start rs) (blockPairs start (rs.filter fun i => decide (i ≠ 15)))) s.cfg.ldmReturn
        (s.read32 (alignWord (start + blockBytes (rs.filter fun i => decide (i ≠ 15))))) :=
  State.accessBlock_ok (blockFaults_of_accessible hacc) _ _

/-- Settles O36: the loads, then the return from the state they leave. -/
theorem loadMultipleReturn : Obligations.LoadMultipleReturn := by
  unfold Obligations.LoadMultipleReturn
  rintro s c m rn list v ⟨harm, hpass⟩ h15 hspsr hlegal hpermits rs as target hacc
  have hrs : rs = (rs.filter fun i => decide (i ≠ 15)) ++ [15] := registers_of_bit15 h15
  have hexec := (exec_ldmRet hpass m rn list).trans (State.guarded_of_permits hpermits (firstCase_blockCases_of_bit15 h15) _)
  have hlast : as.getLastD 0 = alignWord (blockFrom m (s.reg rn) rs.length + blockBytes (rs.filter fun i => decide (i ≠ 15))) := by
    have has : as = wordsFrom (blockFrom m (s.reg rn) rs.length) ((rs.filter fun i => decide (i ≠ 15)) ++ [15]).length := by rw [← hrs]
    rw [has, List.length_append, List.length_singleton, wordsFrom_append_last, List.getLastD_concat]
    rfl
  obtain ⟨h, hkept⟩ := loadDone_core s false (decide (m.w = true ∧ rn ≠ 15)) rn (blockEnd m (s.reg rn) rs.length)
    (blockPairs (blockFrom m (s.reg rn) rs.length) rs) (low := blockPairs (blockFrom m (s.reg rn) rs.length) (rs.filter fun i => decide (i ≠ 15)))
    (by rw [blockPairs_fst]; exact (registers_nodup list).filter _)
  have hreturn := (h.returned v target).congrWrites fun q => valueIn_return _ _ target _ _ _ q
  rw [← hrs, blockPairs_snd] at hreturn
  simp only [decide_eq_true_eq] at hreturn
  obtain ⟨-, hcpsr, hsaved, -⟩ := h
  have hspsr' := (hsaved s.mode).trans hspsr
  rw [← State.mode_congr hcpsr] at hspsr'
  refine ⟨_, ?_, hreturn, hkept⟩
  rw [hexec, blockBack_eq, blockStart_eq_blockFrom, blockBase_eq_blockEnd, State.loadReturn_ok hacc,
    State.exceptionReturn_of_legal _ _ _ hspsr' hlegal, State.thumb_congr hcpsr, harm, returnPc_eq_returnAddress, ← hlast]

/-! ## Where a status access or a return is a mode error (10_state.md R42, R47, 60_exceptions.md R551) -/

section ModeError

variable {s : State}

theorem spsr_of_usr_or_sys (h : s.mode = .usr ∨ s.mode = .sys) : s.spsr.get s.mode = none := by
  rcases h with h | h <;> rw [h] <;> rfl

theorem State.writeCpsr_of_illegal {v : Word} (h : (Mode.ofBits (modeField v)).isSome = false) : s.writeCpsr v = .error .modeError := by
  unfold State.writeCpsr
  cases hbits : Mode.ofBits (modeField v) with
  | none => rfl
  | some m => rw [hbits] at h; cases h

theorem zip_wordsFrom {α : Type} (start : Word) {low : List α} {n : Nat} (h : low.length ≤ n) :
    low.zip (wordsFrom start n) = low.zip (wordsFrom start low.length) := by
  induction low generalizing start n with
  | nil => rfl
  | cons r low ih =>
    obtain ⟨n, rfl⟩ := Nat.exists_eq_succ_of_ne_zero (Nat.pos_iff_ne_zero.mp (Nat.lt_of_lt_of_le (Nat.succ_pos _) h))
    rw [List.length_cons, wordsFrom_succ, wordsFrom_succ, List.zip_cons_cons, List.zip_cons_cons, ih _ (Nat.le_of_succ_le_succ h)]

/-- The writes of the loads of a list that is not longer than the words. -/
theorem blockLoads_wordsFrom (s : State) (user : Bool) (start : Word) {low : List Reg} {n : Nat} (h : low.length ≤ n) :
    blockLoads s user low (wordsFrom start n) = pairWrites s user (blockPairs start low) := by
  rw [blockLoads_eq_pairWrites, zip_wordsFrom start h, blockPairs_eq_zip]

end ModeError

/-- Settles O24: no SPSR to read or write, none that names a mode to return to, or no mode in the word to write; the LDM stops after its loads. -/
theorem modeErrors : Obligations.ModeErrors := by
  unfold Obligations.ModeErrors
  rintro s c ⟨harm, hpass⟩ -
  refine ⟨fun hmode => ⟨fun rd hpermits => ?_, fun k x hpermits => ?_⟩, fun hreturn => ?_, ?_⟩
  · rw [exec_mrs hpass true hpermits, if_pos rfl, State.spsrNow, spsr_of_usr_or_sys hmode]
    rfl
  · rw [exec_msr_spsr k hpass hpermits, State.spsrNow, spsr_of_usr_or_sys hmode]
    rfl
  · have hillegal : ∀ v, s.spsr.get s.mode = some v → (Mode.ofBits (modeField v)).isSome = false := by
      intro v hv
      rcases hreturn with h | h | ⟨v', hv', hbits⟩
      · exact nomatch (spsr_of_usr_or_sys (.inl h)).symm.trans hv
      · exact nomatch (spsr_of_usr_or_sys (.inr h)).symm.trans hv
      · cases hv'.symm.trans hv
        exact hbits
    refine ⟨fun op rn x hop hx => ?_, ?_⟩
    · rw [exec_dp_return hpass hop hx, State.exceptionReturn_illegal (s := s.fetched.internal x.cycles) hillegal]
      rfl
    · intro m rn list h15 hpermits rs as hacc
      have hnodup : ((blockPairs (blockFrom m (s.reg rn) rs.length) (rs.filter fun i => decide (i ≠ 15))).map Prod.fst).Nodup := by
        rw [blockPairs_fst]
        exact (registers_nodup list).filter _
      obtain ⟨hdone, -⟩ := loadDone_core s false (decide (m.w = true ∧ rn ≠ 15)) rn (blockEnd m (s.reg rn) rs.length)
        (blockPairs (blockFrom m (s.reg rn) rs.length) rs) hnodup
      obtain ⟨hcore, hkept⟩ := loadStuck_core s false (decide (m.w = true ∧ rn ≠ 15)) rn (blockEnd m (s.reg rn) rs.length)
        (blockPairs (blockFrom m (s.reg rn) rs.length) rs) hnodup
      rw [blockPairs_snd, ← blockLoads_wordsFrom s false _ (List.length_filter_le _ rs)] at hcore
      simp only [decide_eq_true_eq] at hcore
      refine ⟨_, ?_, hcore, hkept⟩
      obtain ⟨-, hcpsr, hsaved, -⟩ := hdone
      rw [exec_ldmRet hpass m rn list, State.guarded_of_permits hpermits (firstCase_blockCases_of_bit15 h15), blockBack_eq,
        blockStart_eq_blockFrom, blockBase_eq_blockEnd, State.loadReturn_ok hacc, State.exceptionReturn_illegal]
      · rfl
      · rw [State.mode_congr hcpsr, hsaved]
        exact hillegal
  · intro k x new hillegal hpermits
    rw [exec_msr_cpsr harm hpass hpermits, State.writeCpsr_of_illegal hillegal]
    rfl

/-! ## POP and LDMIA (46_thumb_load_store.md R471, R473) -/

theorem lowList_nodup (list : BitVec 8) : (lowList list).Nodup := registers_nodup _

theorem not_mem_lowList_15 (list : BitVec 8) : (15 : Reg) ∉ lowList list := fun h => absurd (lowList_lt h) (by decide)

theorem popList_nodup (r : Bool) (list : BitVec 8) : (popList r list).Nodup := by
  cases r with
  | false =>
    rw [popList, if_neg Bool.false_ne_true, List.append_nil]
    exact lowList_nodup list
  | true => exact List.nodup_append_comm.mp (List.nodup_cons.mpr ⟨not_mem_lowList_15 list, lowList_nodup list⟩)

theorem mem_popList_15 (r : Bool) (list : BitVec 8) : (15 : Reg) ∈ popList r list ↔ r = true := by
  rw [popList, List.mem_append, or_iff_right (not_mem_lowList_15 list)]
  cases r <;> decide

/-- Settles O45: both are one block load; POP's list may end in the program counter, LDMIA writes its base back unless it is loaded. -/
theorem thumbLoadMultiple : Obligations.ThumbLoadMultiple := by
  unfold Obligations.ThumbLoadMultiple
  intro s r rb list hthumb
  constructor
  · intro hpermits rs sp as w hacc
    obtain ⟨t, ht, hcore, hkept⟩ := s.loadBlock_completes false false sp true 13 (sp + blockBytes (popList r list)) (popList_nodup r list) hacc
    simp only [mem_popList_15, hthumb, State.ilen_thumb hthumb] at hcore
    refine ⟨t, (State.guarded_of_permits hpermits firstCase_pushPopCase _).trans ?_, hcore, hkept⟩
    rw [State.reg_of_ne s (by decide)]
    exact ht
  · intro hpermits rs as hacc w
    obtain ⟨t, ht, hcore, hkept⟩ := s.loadBlock_completes false false (s.lo rb) (decide (rb.toReg ∉ lowList list)) rb.toReg
      (s.lo rb + blockBytes (lowList list)) (lowList_nodup list) hacc
    rw [if_neg (not_mem_lowList_15 list), State.ilen_thumb hthumb, Nat.add_zero] at hcore
    have hw : (if decide (rb.toReg ∉ lowList list) = true then [dest s rb.toReg (s.lo rb + blockBytes (lowList list))] else []) =
        if rb.toReg ∈ lowList list then [] else [low s rb (s.lo rb + BitVec.ofNat 32 (4 * (lowList list).length))] := by
      by_cases hmem : rb.toReg ∈ lowList list
      · rw [if_pos hmem, if_neg (by simpa using hmem)]
      · rw [if_neg hmem, if_pos (by simpa using hmem), dest_toReg, blockBytes]
    rw [← List.append_assoc, hw] at hcore
    exact ⟨t, (State.guarded_of_permits hpermits firstCase_multipleCase _).trans ht, hcore, hkept⟩

end Sys2Proof.Machine

end BlockTransfers

/-! # Under arm7tdmi and discard only a mode error stops an instruction (00_scope.md R10, 60_exceptions.md R551) -/

section Completion

open Sys2Proof.Claims Sys2Proof.Machine

namespace Sys2Proof.Machine

/-- The instructions that a mode error may stop: a read of an SPSR, MSR and the exception returns (R47, R551). -/
def MayModeError (i : Instr) : Prop := (∃ c rd, i = .mrs c true rd) ∨ (∃ c r mask x, i = Claims.msr c r mask x) ∨ Returns i

/-- A result that is a next state or, for an instruction that may have one, a mode error. -/
def Completes (i : Instr) (r : Result) : Prop := (∃ t : State, r = .next t) ∨ ((∃ t : State, Halts r .modeError t) ∧ MayModeError i)

namespace Completes

variable {s : State} {i : Instr} {c : Cond}

theorem next (t : State) : Completes i (.next t) := .inl ⟨t, rfl⟩

theorem modeError (hi : MayModeError i) (t : State) : Completes i (t.stop .modeError) := .inr ⟨⟨t, rfl⟩, hi⟩

/-! ## The gates: none of them stops the instruction -/

theorem gated {k : Result} (h : Completes i k) : Completes i (s.gate c k) := by
  cases hpass : s.passes c with
  | false => rw [State.gate_skips hpass]; exact next _
  | true => rwa [State.gate_passes hpass]

theorem guarded {cs : List (Bool × Unpred)} {k : Result} (hpolicy : s.cfg.unpredictable = .arm7tdmi) (h : Completes i k) :
    Completes i (s.guarded cs k) := by
  rwa [State.guarded_arm7tdmi hpolicy]

theorem access {a : Word} {w : Width} {k : Result} (hoow : s.cfg.oow = .discard) (h : Completes i k) : Completes i (s.access a w k) := by
  rwa [State.access_ok (accessFaults_discard hoow a w)]

theorem accessBlock {ps : List (Reg × Word)} {stuck : List (Reg × Word) → State} {k : Result} (hoow : s.cfg.oow = .discard)
    (h : Completes i k) : Completes i (s.accessBlock ps stuck k) := by
  rwa [State.accessBlock_ok (blockFaults_discard hoow ps)]

theorem load {k : LoadKind} {a back : Word} {rd rn : Reg} {wb : Bool} (hoow : s.cfg.oow = .discard) :
    Completes i (s.load k a rd wb rn back) := access hoow (next _)

theorem store {k : StoreKind} {a v back : Word} {rn : Reg} {wb : Bool} (hoow : s.cfg.oow = .discard) :
    Completes i (s.store k a v wb rn back) := access hoow (next _)

theorem loadBlock {user early wb : Bool} {start back : Word} {rs : List Reg} {rn : Reg} (hoow : s.cfg.oow = .discard) :
    Completes i (s.loadBlock user early start rs wb rn back) := accessBlock hoow (next _)

theorem storeBlock {user early wb : Bool} {start back : Word} {rs : List Reg} {rn : Reg} (hoow : s.cfg.oow = .discard) :
    Completes i (s.storeBlock user early start rs wb rn back) := by
  unfold State.storeBlock
  exact accessBlock hoow (next _)

/-! ## The operations that may be a mode error -/

theorem orStop {r : Except FaultName State} (hi : MayModeError i) (hr : ∀ f, r = .error f → f = .modeError) : Completes i (s.orStop r) := by
  cases r with
  | ok t => exact next t
  | error f => rw [hr f rfl]; exact modeError hi s

theorem exceptionReturn {stuck : State} {r : ReturnAlign} {a : Word} (hi : MayModeError i) : Completes i (s.exceptionReturn stuck r a) := by
  by_cases h : ∃ v, s.spsr.get s.mode = some v ∧ (Mode.ofBits (modeField v)).isSome = true
  · obtain ⟨v, hv, hlegal⟩ := h
    rw [State.exceptionReturn_of_legal _ _ _ hv hlegal]
    exact next _
  · rw [State.exceptionReturn_illegal fun v hv => Bool.eq_false_iff.mpr fun hlegal => h ⟨v, hv, hlegal⟩]
    exact modeError hi stuck

theorem dpWrite {t : State} {f : Bool} {rd : Reg} {o : Alu} (hi : f = true → rd = 15 → MayModeError i) : Completes i (s.dpWrite t f rd o) := by
  by_cases hreturn : rd = 15 ∧ f = true
  · obtain ⟨h15, hf⟩ := hreturn
    rw [State.dpWrite, if_pos h15, if_pos hf]
    exact exceptionReturn (hi hf h15)
  · rw [State.dpWrite_of_not_return fun h15 => Bool.eq_false_iff.mpr fun hf => hreturn ⟨h15, hf⟩]
    exact next _

theorem mrs {r : Bool} {rd : Reg} (hpolicy : s.cfg.unpredictable = .arm7tdmi) : Completes (.mrs c r rd) (exec (.mrs c r rd) s) := by
  refine gated (guarded hpolicy ?_)
  split
  · exact next _
  · rename_i hnone
    cases r with
    | false => cases hnone
    | true => exact modeError (.inl ⟨c, rd, rfl⟩) s

theorem writeCpsr_error {v : Word} {f : FaultName} (h : s.writeCpsr v = .error f) : f = .modeError := by
  unfold State.writeCpsr at h
  split at h <;> cases h
  rfl

theorem writeSpsr_error {v : Word} {f : FaultName} (h : s.writeSpsr v = .error f) : f = .modeError := by
  unfold State.writeSpsr at h
  split at h <;> cases h
  rfl

theorem msr {r : Bool} {mask : BitVec 4} {v : Word} {cs : List (Bool × Unpred)} (hpolicy : s.cfg.unpredictable = .arm7tdmi)
    (hi : MayModeError i) : Completes i (s.msr r mask v cs) := by
  unfold State.msr
  split_ifs
  · refine guarded hpolicy ?_
    split
    · exact orStop hi fun _ => writeSpsr_error
    · exact modeError hi s
  · exact guarded hpolicy (orStop hi fun _ => writeCpsr_error)

/-- Data processing in any form: only with S = 1 and Rd = 15 is it a return (R259). -/
theorem dp (op : DpOp) (f : Bool) (rn rd : Reg) (x : Operand2) (hpolicy : s.cfg.unpredictable = .arm7tdmi) :
    Completes (Claims.dp op c f rn rd x) (exec (Claims.dp op c f rn rd x) s) := by
  cases hpass : s.passes c with
  | false =>
    have hskips : exec (Claims.dp op c f rn rd x) s = .next s.fetched := by
      refine exec_skips (Eq.trans (congrArg s.passes ?_) hpass)
      cases op <;> cases x <;> rfl
    rw [hskips]
    exact next _
  | true =>
    cases hop : compares op with
    | true => rw [exec_dp_compare f rn rd hop hpass]; exact next _
    | false =>
      have hreturns : f = true → rd = 15 → MayModeError (Claims.dp op c f rn rd x) := fun hf h15 => .inr (.inr (Effect.returns_dp hop rfl hf h15))
      cases hx : x.byRegister with
      | false => rw [exec_dp f rn rd hop hx hpass]; exact dpWrite hreturns
      | true => rw [exec_dp_byRegister f rn rd hop hx hpass]; exact guarded hpolicy (dpWrite hreturns)

theorem undefinedEncoding : Completes i s.undefinedEncoding := by
  unfold State.undefinedEncoding
  split <;> exact next _

end Completes

/-- What any instruction answers where neither policy stops it. -/
theorem exec_completes {s : State} (i : Instr) (hpolicy : s.cfg.unpredictable = .arm7tdmi) (hoow : s.cfg.oow = .discard) :
    Completes i (exec i s) := by
  cases i with
  | mul | mla | umull | umlal | smull | smlal | bx => exact .gated (.guarded hpolicy (.next _))
  | swp | swpb => exact .gated (.guarded hpolicy (.access hoow (.next _)))
  | strhReg | strhImm | strtImm | strtReg | strbtImm | strbtReg | strImm | strReg | strbImm | strbReg =>
    exact .gated (.guarded hpolicy (.store hoow))
  | ldrhReg | ldrhImm | ldrsbReg | ldrsbImm | ldrshReg | ldrshImm | ldrtImm | ldrtReg | ldrbtImm | ldrbtReg | ldrImm | ldrReg | ldrbImm
  | ldrbReg => exact .gated (.guarded hpolicy (.load hoow))
  | mrs => exact .mrs hpolicy
  | msrReg c r mask rm => exact .gated (.msr hpolicy (.inr (.inl ⟨c, r, mask, .inl rm, rfl⟩)))
  | msrImm c r mask o => exact .gated (.msr hpolicy (.inr (.inl ⟨c, r, mask, .inr o, rfl⟩)))
  | undefMul | undefSwp | undefHalfwordStore | undefMisc | undefImmCmp | undefMedia | coprocXfer | coprocOp => exact .gated .undefinedEncoding
  | andImm c f rn rd o => exact .dp .and f rn rd (.imm o) hpolicy
  | andImmShift c f rn rd o => exact .dp .and f rn rd (.immShift o) hpolicy
  | andRegShift c f rn rd o => exact .dp .and f rn rd (.regShift o) hpolicy
  | eorImm c f rn rd o => exact .dp .eor f rn rd (.imm o) hpolicy
  | eorImmShift c f rn rd o => exact .dp .eor f rn rd (.immShift o) hpolicy
  | eorRegShift c f rn rd o => exact .dp .eor f rn rd (.regShift o) hpolicy
  | subImm c f rn rd o => exact .dp .sub f rn rd (.imm o) hpolicy
  | subImmShift c f rn rd o => exact .dp .sub f rn rd (.immShift o) hpolicy
  | subRegShift c f rn rd o => exact .dp .sub f rn rd (.regShift o) hpolicy
  | rsbImm c f rn rd o => exact .dp .rsb f rn rd (.imm o) hpolicy
  | rsbImmShift c f rn rd o => exact .dp .rsb f rn rd (.immShift o) hpolicy
  | rsbRegShift c f rn rd o => exact .dp .rsb f rn rd (.regShift o) hpolicy
  | addImm c f rn rd o => exact .dp .add f rn rd (.imm o) hpolicy
  | addImmShift c f rn rd o => exact .dp .add f rn rd (.immShift o) hpolicy
  | addRegShift c f rn rd o => exact .dp .add f rn rd (.regShift o) hpolicy
  | adcImm c f rn rd o => exact .dp .adc f rn rd (.imm o) hpolicy
  | adcImmShift c f rn rd o => exact .dp .adc f rn rd (.immShift o) hpolicy
  | adcRegShift c f rn rd o => exact .dp .adc f rn rd (.regShift o) hpolicy
  | sbcImm c f rn rd o => exact .dp .sbc f rn rd (.imm o) hpolicy
  | sbcImmShift c f rn rd o => exact .dp .sbc f rn rd (.immShift o) hpolicy
  | sbcRegShift c f rn rd o => exact .dp .sbc f rn rd (.regShift o) hpolicy
  | rscImm c f rn rd o => exact .dp .rsc f rn rd (.imm o) hpolicy
  | rscImmShift c f rn rd o => exact .dp .rsc f rn rd (.immShift o) hpolicy
  | rscRegShift c f rn rd o => exact .dp .rsc f rn rd (.regShift o) hpolicy
  | orrImm c f rn rd o => exact .dp .orr f rn rd (.imm o) hpolicy
  | orrImmShift c f rn rd o => exact .dp .orr f rn rd (.immShift o) hpolicy
  | orrRegShift c f rn rd o => exact .dp .orr f rn rd (.regShift o) hpolicy
  | movImm c f rd o => exact .dp .mov f 0 rd (.imm o) hpolicy
  | movImmShift c f rd o => exact .dp .mov f 0 rd (.immShift o) hpolicy
  | movRegShift c f rd o => exact .dp .mov f 0 rd (.regShift o) hpolicy
  | bicImm c f rn rd o => exact .dp .bic f rn rd (.imm o) hpolicy
  | bicImmShift c f rn rd o => exact .dp .bic f rn rd (.immShift o) hpolicy
  | bicRegShift c f rn rd o => exact .dp .bic f rn rd (.regShift o) hpolicy
  | mvnImm c f rd o => exact .dp .mvn f 0 rd (.imm o) hpolicy
  | mvnImmShift c f rd o => exact .dp .mvn f 0 rd (.immShift o) hpolicy
  | mvnRegShift c f rd o => exact .dp .mvn f 0 rd (.regShift o) hpolicy
  | tstImm | tstImmShift | tstRegShift | teqImm | teqImmShift | teqRegShift | cmpImm | cmpImmShift | cmpRegShift | cmnImm | cmnImmShift
  | cmnRegShift | b | bl | swi => exact .gated (.next _)
  | ldmRet c m rn list => exact .gated (.guarded hpolicy (.accessBlock hoow (.exceptionReturn (.inr (.inr (.inr ⟨c, m, rn, list, rfl⟩))))))
  | ldmUser | ldm => exact .gated (.guarded hpolicy (.loadBlock hoow))
  | stmUser | stm => exact .gated (.guarded hpolicy (.storeBlock hoow))
  | tPop | tLdmia => exact .guarded hpolicy (.loadBlock hoow)
  | tPush | tStmia => exact .guarded hpolicy (.storeBlock hoow)
  | tAddHi | tMovHi | tCmpHi | tBx => exact .guarded hpolicy (.next _)
  | tLdrPc | tLdsbReg | tLdrReg | tLdrhReg | tLdrbReg | tLdshReg | tLdrImm | tLdrbImm | tLdrhImm | tLdrSp => exact .load hoow
  | tStrReg | tStrhReg | tStrbReg | tStrImm | tStrbImm | tStrhImm | tStrSp => exact .store hoow
  | tUndef1011 | tUndefDe | tUndefE8 => exact .undefinedEncoding
  | tLslImm | tLsrImm | tAsrImm | tAddReg | tSubReg | tAddImm3 | tSubImm3 | tMovImm | tAddImm8 | tSubImm8 | tAnd | tEor | tAdc | tSbc
  | tNeg | tOrr | tBic | tMvn | tCmpImm | tTst | tCmp | tCmn | tLsl | tLsr | tAsr | tRor | tMul | tAddPc | tAddSp | tAddSpImm | tSwi
  | tBCond | tB | tBlHi | tBlLo => exact .next _

/-- Settles O60: neither policy stops an instruction, and what is left that can is a mode error. -/
theorem everyInstructionCompletes : Obligations.EveryInstructionCompletes := fun _ i => exec_completes i

end Sys2Proof.Machine

end Completion

/-! # Under the fault policy every UNPREDICTABLE case stops its instruction (93_implementation_defined.md section 2) -/

section UnpredictableCases

open Sys2Proof.Claims Sys2Proof.Machine

namespace Sys2Proof.Machine

/-- The first case that holds is one of those that hold. -/
theorem firstCase_of_mem {cs : List (Bool × Unpred)} {u : Unpred} (h : (true, u) ∈ cs) : ∃ u', firstCase cs = some u' ∧ (true, u') ∈ cs := by
  induction cs with
  | nil => cases h
  | cons x cs ih =>
    obtain ⟨b, v⟩ := x
    cases b with
    | true => exact ⟨v, rfl, List.mem_cons_self⟩
    | false =>
      obtain ⟨u', hfirst, hmem⟩ := ih ((List.mem_cons.mp h).resolve_left fun heq => nomatch congrArg Prod.fst heq)
      exact ⟨u', hfirst, List.mem_cons_of_mem _ hmem⟩

/-- The instruction stands behind the list of cases `cs`, each that holds being a case of the table. -/
def CasesOf (i : Instr) (s : State) (cs : List (Bool × Unpred)) : Prop :=
  (∃ k : Result, exec i s = s.guarded cs k) ∧ ∀ u, (true, u) ∈ cs → Unpredictable u i s

/-- What `CasesOf` is for: a case that holds stops the instruction with the name of one that does. -/
theorem CasesOf.halts {i : Instr} {s : State} {cs : List (Bool × Unpred)} {u : Unpred} (h : CasesOf i s cs)
    (hpolicy : s.cfg.unpredictable = .fault) (hu : (true, u) ∈ cs) :
    ∃ u', Unpredictable u' i s ∧ Halts (exec i s) (.unpredictable u') s := by
  obtain ⟨⟨k, hexec⟩, hcases⟩ := h
  obtain ⟨u', hfirst, hmem⟩ := firstCase_of_mem hu
  exact ⟨u', hcases u' hmem, hexec.trans (State.guarded_fault hpolicy hfirst k)⟩

/-- The one case of a list of one. -/
theorem CasesOf.single {i : Instr} {s : State} {b : Bool} {u : Unpred} {k : Result} (hexec : exec i s = s.guarded [(b, u)] k)
    (hu : b = true → Unpredictable u i s) : CasesOf i s [(b, u)] := by
  refine ⟨⟨k, hexec⟩, fun u' hmem => ?_⟩
  obtain ⟨hb, rfl⟩ := Prod.mk.inj (List.mem_singleton.mp hmem)
  exact hu hb.symm

/-- The two cases of a list of two. -/
theorem CasesOf.pair {i : Instr} {s : State} {b b' : Bool} {u u' : Unpred} {k : Result} (hexec : exec i s = s.guarded [(b, u), (b', u')] k)
    (hu : b = true → Unpredictable u i s) (hu' : b' = true → Unpredictable u' i s) : CasesOf i s [(b, u), (b', u')] := by
  refine ⟨⟨k, hexec⟩, fun v hmem => ?_⟩
  rcases List.mem_cons.mp hmem with heq | hmem
  · obtain ⟨hb, rfl⟩ := Prod.mk.inj heq
    exact hu hb.symm
  · obtain ⟨hb, rfl⟩ := Prod.mk.inj (List.mem_singleton.mp hmem)
    exact hu' hb.symm

theorem backs_eq_writesBack (m : Idx) : backs m = writesBack m := rfl

section Forms

variable {s : State} {c : Cond}

/-! ## The condition of the instructions that are named by their form -/

theorem conditionOf_dp (op : DpOp) (f : Bool) (rn rd : Reg) (x : Operand2) : conditionOf (dp op c f rn rd x) = c := by
  cases op <;> cases x <;> rfl

theorem conditionOf_msr (r : Bool) (mask : BitVec 4) (x : Reg ⊕ RotImm) : conditionOf (msr c r mask x) = c := by
  cases x <;> rfl

theorem conditionOf_longMul (k : LongMul) (f : Bool) (hi lo rs rm : Reg) : conditionOf (k.instr c f hi lo rs rm) = c := by
  cases k <;> rfl

theorem conditionOf_load (byte : Bool) (m : Idx) (rn rd : Reg) (x : BitVec 12 ⊕ ImmShift) :
    conditionOf (loadWordOrByte byte c m rn rd x) = c := by
  obtain ⟨p, u, w⟩ := m
  cases byte <;> cases p <;> cases w <;> cases x <;> rfl

theorem conditionOf_store (byte : Bool) (m : Idx) (rn rd : Reg) (x : BitVec 12 ⊕ ImmShift) :
    conditionOf (storeWordOrByte byte c m rn rd x) = c := by
  obtain ⟨p, u, w⟩ := m
  cases byte <;> cases p <;> cases w <;> cases x <;> rfl

theorem conditionOf_halfLoad (h : HalfLoad) (m : Idx) (rn rd : Reg) (x : BitVec 8 ⊕ Reg) : conditionOf (h.instr c m rn rd x) = c := by
  cases h <;> cases x <;> rfl

theorem conditionOf_storeHalf (m : Idx) (rn rd : Reg) (x : BitVec 8 ⊕ Reg) : conditionOf (storeHalf c m rn rd x) = c := by
  cases x <;> rfl

theorem conditionOf_block {i : Instr} {m : Idx} {rn : Reg} {list : BitVec 16} (hi : i ∈ blocks c m rn list) : conditionOf i = c := by
  simp only [blocks, List.mem_cons, List.not_mem_nil, or_false] at hi
  rcases hi with rfl | rfl | rfl | rfl | rfl <;> rfl

theorem conditionOf_swap {i : Instr} {rn rd rm : Reg} (hi : i ∈ [Instr.swp c rn rd rm, .swpb c rn rd rm]) : conditionOf i = c := by
  simp only [List.mem_cons, List.not_mem_nil, or_false] at hi
  rcases hi with rfl | rfl <;> rfl

/-! ## The cases each form stands behind -/

theorem casesOf_dp {op : DpOp} {f : Bool} {rn rd : Reg} {x : Operand2} (hpass : s.passes (conditionOf (dp op c f rn rd x)) = true)
    (hop : compares op = false) (hx : x.byRegister = true) : CasesOf (dp op c f rn rd x) s [(decide (rd = 15), .dpRegshiftRd15)] := by
  rw [conditionOf_dp] at hpass
  exact .single (exec_dp_byRegister f rn rd hop hx hpass) fun h => of_decide_eq_true h ▸ .dp s op c f rn x hop hx

theorem casesOf_mrs {r : Bool} {rd : Reg} (hpass : s.passes c = true) : CasesOf (.mrs c r rd) s [(decide (rd = 15), .mrsRd15)] :=
  .single (State.gate_passes hpass _) fun h => of_decide_eq_true h ▸ .mrs s c r

/-- Whether MSR to CPSR would change the T bit, as a case (R283). -/
def msrCases (s : State) (r : Bool) (mask : BitVec 4) (x : Reg ⊕ RotImm) : List (Bool × Unpred) :=
  msrOperandCases x ++ if r then [] else [((s.msrCpsr mask (msrValue s x)).getLsbD 5 != s.thumb, .msrTChange)]

theorem casesOf_msr {r : Bool} {mask : BitVec 4} {x : Reg ⊕ RotImm} (hpass : s.passes (conditionOf (msr c r mask x)) = true) :
    CasesOf (msr c r mask x) s (msrCases s r mask x) := by
  rw [conditionOf_msr] at hpass
  constructor
  · rw [exec_msr hpass, State.msr, msrCases]
    cases r with
    | false => exact ⟨_, rfl⟩
    | true => exact ⟨_, congrArg (State.guarded s · _) (List.append_nil _).symm⟩
  · intro u hu
    rcases List.mem_append.mp hu with hu | hu
    · cases x with
      | inr o => cases hu
      | inl rm =>
        obtain ⟨h15, rfl⟩ := Prod.mk.inj (List.mem_singleton.mp hu)
        rw [of_decide_eq_true h15.symm]
        exact .msr s c r mask
    · cases r with
      | true => cases hu
      | false =>
        obtain ⟨ht, rfl⟩ := Prod.mk.inj (List.mem_singleton.mp hu)
        refine .msrT s c mask x ?_
        rw [← State.msrCpsr_eq]
        exact bne_iff_ne.mp ht.symm

theorem mem_cons_15 {r : Reg} {rs : List Reg} : (15 : Reg) ∈ r :: rs ↔ r = 15 ∨ 15 ∈ rs := by
  rw [List.mem_cons, eq_comm]

theorem casesOf_mul {f : Bool} {rd rs rm : Reg} (hpass : s.passes c = true) : CasesOf (.mul c f rd rs rm) s (mulCases rd rm [rd, rm, rs]) :=
  .pair (State.gate_passes hpass _) (fun h => .mul15 s c f rd rs rm (by
    simpa only [decide_eq_true_eq, mem_cons_15, List.not_mem_nil, false_or, or_false, or_comm, or_left_comm] using h))
    fun h => of_decide_eq_true h ▸ .mulEq s c f rd rs

theorem casesOf_mla {f : Bool} {rd rn rs rm : Reg} (hpass : s.passes c = true) :
    CasesOf (.mla c f rd rn rs rm) s (mulCases rd rm [rd, rm, rs, rn]) :=
  .pair (State.gate_passes hpass _) (fun h => .mla15 s c f rd rn rs rm (by
    simpa only [decide_eq_true_eq, mem_cons_15, List.not_mem_nil, false_or, or_false, or_comm, or_left_comm] using h))
    fun h => of_decide_eq_true h ▸ .mlaEq s c f rd rn rs

theorem casesOf_mull {k : LongMul} {f : Bool} {hi lo rs rm : Reg} (hpass : s.passes (conditionOf (k.instr c f hi lo rs rm)) = true) :
    CasesOf (k.instr c f hi lo rs rm) s (mullCases hi lo rs rm) := by
  rw [conditionOf_longMul] at hpass
  have hexec : ∃ r, exec (k.instr c f hi lo rs rm) s = s.guarded (mullCases hi lo rs rm) r := by
    cases k <;> exact ⟨_, State.gate_passes hpass _⟩
  obtain ⟨r, hexec⟩ := hexec
  exact .pair hexec (fun h => .mull15 s k c f hi lo rs rm (by
    simpa only [decide_eq_true_eq, mem_cons_15, List.not_mem_nil, false_or, or_false, or_comm, or_left_comm] using h))
    fun h => .mullOverlap s k c f hi lo rs rm (of_decide_eq_true h)

theorem casesOf_load {byte : Bool} {m : Idx} {rn rd : Reg} {x : BitVec 12 ⊕ ImmShift}
    (hpass : s.passes (conditionOf (loadWordOrByte byte c m rn rd x)) = true) :
    CasesOf (loadWordOrByte byte c m rn rd x) s (wordCases true byte m rn rd x) := by
  rw [conditionOf_load] at hpass
  refine ⟨⟨_, exec_loadWordOrByte hpass byte m rn rd x⟩, fun u hu => ?_⟩
  rcases mem_wordCases hu with ⟨rfl, hwb, rfl⟩ | ⟨rfl, -, hwb, rfl⟩ | ⟨rfl, ⟨rm, ty, n⟩, rfl, rfl⟩ | ⟨rfl, -, rfl, rfl⟩
  · exact .loadBack15 s byte c m rd x hwb
  · exact .loadBackEq s byte c m rn x hwb
  · exact .loadRm15 s byte c m rn rd ty n
  · exact .byte15 s c m rn x

theorem casesOf_store {byte : Bool} {m : Idx} {rn rd : Reg} {x : BitVec 12 ⊕ ImmShift}
    (hpass : s.passes (conditionOf (storeWordOrByte byte c m rn rd x)) = true) :
    CasesOf (storeWordOrByte byte c m rn rd x) s (wordCases false byte m rn rd x) := by
  rw [conditionOf_store] at hpass
  refine ⟨⟨_, exec_storeWordOrByte hpass byte m rn rd x⟩, fun u hu => ?_⟩
  rcases mem_wordCases hu with ⟨rfl, hwb, rfl⟩ | ⟨-, hload, -⟩ | ⟨rfl, ⟨rm, ty, n⟩, rfl, rfl⟩ | ⟨-, hload, -⟩
  · exact .storeBack15 s byte c m rd x hwb
  · cases hload
  · exact .storeRm15 s byte c m rn rd ty n
  · cases hload

/-- The index mode of the case `halfPostW`. -/
theorem idx_eq_postIndexed {m : Idx} (hp : m.p = false) (hw : m.w = true) : m = ⟨false, m.u, true⟩ := by
  obtain ⟨p, u, w⟩ := m
  cases hp
  cases hw
  rfl

theorem casesOf_halfLoad {h : HalfLoad} {m : Idx} {rn rd : Reg} {x : BitVec 8 ⊕ Reg}
    (hpass : s.passes (conditionOf (h.instr c m rn rd x)) = true) : CasesOf (h.instr c m rn rd x) s (halfwordCases true m rn rd x) := by
  rw [conditionOf_halfLoad] at hpass
  refine ⟨⟨_, exec_halfLoad hpass h m rn rd x⟩, fun u hu => ?_⟩
  rcases mem_halfwordCases hu with ⟨rfl, hp, hw⟩ | ⟨rfl, rfl⟩ | ⟨rfl, hwb, rfl⟩ | ⟨rfl, -, hwb, rfl⟩ | ⟨rfl, -, rfl⟩
  · exact idx_eq_postIndexed hp hw ▸ .halfLoadPost s h c m.u rn rd x
  · exact .halfLoadRm15 s h c m rn rd
  · exact .halfLoadBack15 s h c m rd x hwb
  · exact .halfLoadBackEq s h c m rn x hwb
  · exact .halfLoad15 s h c m rn x

theorem casesOf_storeHalf {m : Idx} {rn rd : Reg} {x : BitVec 8 ⊕ Reg}
    (hpass : s.passes (conditionOf (storeHalf c m rn rd x)) = true) : CasesOf (storeHalf c m rn rd x) s (halfwordCases false m rn rd x) := by
  rw [conditionOf_storeHalf] at hpass
  refine ⟨⟨_, exec_storeHalf hpass m rn rd x⟩, fun u hu => ?_⟩
  rcases mem_halfwordCases hu with ⟨rfl, hp, hw⟩ | ⟨rfl, rfl⟩ | ⟨rfl, hwb, rfl⟩ | ⟨-, hload, -⟩ | ⟨-, hload, -⟩
  · exact idx_eq_postIndexed hp hw ▸ .halfStorePost s c m.u rn rd x
  · exact .halfStoreRm15 s c m rn rd
  · exact .halfStoreBack15 s c m rd x hwb
  · cases hload
  · cases hload

/-- A block transfer behind the cases of R346, `user` for the two that are user-bank transfers. -/
theorem casesOf_block {i : Instr} {user : Bool} {m : Idx} {rn : Reg} {list : BitVec 16} {k : Result}
    (hexec : exec i s = s.guarded (blockTransferCases s user m rn list) k) (hi : i ∈ blocks c m rn list)
    (huser : user = true → i ∈ [Instr.ldmUser c m rn list, .stmUser c m rn list]) : CasesOf i s (blockTransferCases s user m rn list) := by
  refine ⟨⟨k, hexec⟩, fun u hu => ?_⟩
  rcases mem_blockTransferCases hu with ⟨rfl, rfl⟩ | ⟨rfl, rfl⟩ | ⟨rfl, hb, husr⟩ | ⟨rfl, hb, hw⟩
  · exact .block15 s c m list i hi
  · exact .blockEmpty s c m rn i hi
  · exact .userInUsr s c m rn list i husr (huser hb)
  · exact .userBack s c m rn list i hw (huser hb)

/-- Every block transfer of the 32-bit table stands behind those cases. -/
theorem casesOf_blocks {i : Instr} {m : Idx} {rn : Reg} {list : BitVec 16} (hpass : s.passes (conditionOf i) = true)
    (hi : i ∈ blocks c m rn list) :
    ∃ user, CasesOf i s (blockTransferCases s user m rn list) ∧ (i ∈ [Instr.ldmUser c m rn list, .stmUser c m rn list] → user = true) := by
  rw [conditionOf_block hi] at hpass
  have hi' := hi
  simp only [blocks, List.mem_cons, List.not_mem_nil, or_false] at hi'
  rcases hi' with rfl | rfl | rfl | rfl | rfl
  · exact ⟨false, casesOf_block (exec_ldmRet hpass m rn list) hi nofun, by simp⟩
  · exact ⟨true, casesOf_block (exec_loadMultiple hpass true m rn list) hi fun _ => by simp, fun _ => rfl⟩
  · exact ⟨true, casesOf_block (exec_storeMultiple hpass true m rn list) hi fun _ => by simp, fun _ => rfl⟩
  · exact ⟨false, casesOf_block (exec_loadMultiple hpass false m rn list) hi nofun, by simp⟩
  · exact ⟨false, casesOf_block (exec_storeMultiple hpass false m rn list) hi nofun, by simp⟩

theorem casesOf_swap {i : Instr} {rn rd rm : Reg} (hpass : s.passes (conditionOf i) = true)
    (hi : i ∈ [Instr.swp c rn rd rm, .swpb c rn rd rm]) : CasesOf i s (swapCases rn rd rm) := by
  rw [conditionOf_swap hi] at hpass
  have hexec : ∃ r, exec i s = s.guarded (swapCases rn rd rm) r := by
    simp only [List.mem_cons, List.not_mem_nil, or_false] at hi
    rcases hi with rfl | rfl <;> exact ⟨_, State.gate_passes hpass _⟩
  obtain ⟨r, hexec⟩ := hexec
  exact .pair hexec (fun h => .swap15 s c rn rd rm i (by
    simpa only [decide_eq_true_eq, mem_cons_15, List.not_mem_nil, false_or, or_false, or_comm, or_left_comm] using h) hi)
    fun h => .swapEq s c rn rd rm i (of_decide_eq_true h) hi

/-- A target that is halfword-aligned for an ARM state (R376). -/
theorem misaligned_iff (v : Word) : (!v.getLsbD 0 && v.getLsbD 1) = true ↔ v.toNat % 4 = 2 := by
  rw [Bool.and_eq_true, Bool.not_eq_true', BitVec.getLsbD, BitVec.getLsbD, Nat.testBit_eq_decide_div_mod_eq, Nat.testBit_eq_decide_div_mod_eq,
    decide_eq_false_iff_not, decide_eq_true_eq]
  omega

theorem casesOf_bx {rm : Reg} (hpass : s.passes c = true) :
    CasesOf (.bx c rm) s [(decide (rm = 15), .bxPc), (!(s.reg rm).getLsbD 0 && (s.reg rm).getLsbD 1, .bxArmMisaligned)] :=
  .pair (State.gate_passes hpass _) (fun h => of_decide_eq_true h ▸ .bxPc s c) fun h => .bxTarget s c rm ((misaligned_iff _).mp h)

theorem casesOf_tBx {h1 : Bool} {m : Reg} :
    CasesOf (.tBx h1 m) s [(h1, .thumbBxH1), (!(s.reg m).getLsbD 0 && (s.reg m).getLsbD 1, .bxArmMisaligned)] :=
  .pair rfl (fun h => h ▸ .tBxH1 s m) fun h => .tBxTarget s h1 m ((misaligned_iff _).mp h)

theorem casesOf_hi {i : Instr} {d m : Reg} (hi : i ∈ [Instr.tAddHi d m, .tCmpHi d m, .tMovHi d m]) : CasesOf i s (lowLowCase d m) := by
  have hexec : ∃ r, exec i s = s.guarded (lowLowCase d m) r := by
    simp only [List.mem_cons, List.not_mem_nil, or_false] at hi
    rcases hi with rfl | rfl | rfl <;> exact ⟨_, rfl⟩
  obtain ⟨r, hexec⟩ := hexec
  refine .single hexec fun h => ?_
  obtain ⟨hd, hm⟩ := of_decide_eq_true h
  exact .lowLow s d m i hd hm hi

theorem casesOf_multiple {i : Instr} {rb : LoReg} {list : BitVec 8} (hi : i ∈ [Instr.tStmia rb list, .tLdmia rb list]) :
    CasesOf i s (multipleCase list) := by
  have hexec : ∃ r, exec i s = s.guarded (multipleCase list) r := by
    simp only [List.mem_cons, List.not_mem_nil, or_false] at hi
    rcases hi with rfl | rfl <;> exact ⟨_, rfl⟩
  obtain ⟨r, hexec⟩ := hexec
  exact .single hexec fun h => .multipleEmpty s rb i (of_decide_eq_true h ▸ hi)

theorem casesOf_stack {i : Instr} (hi : i ∈ [Instr.tPush false 0, .tPop false 0]) : CasesOf i s (pushPopCase false 0) := by
  have hexec : ∃ r, exec i s = s.guarded (pushPopCase false 0) r := by
    simp only [List.mem_cons, List.not_mem_nil, or_false] at hi
    rcases hi with rfl | rfl <;> exact ⟨_, rfl⟩
  obtain ⟨r, hexec⟩ := hexec
  exact .single hexec fun _ => .stackEmpty s i hi

theorem mem_blocks_of_user {i : Instr} {m : Idx} {rn : Reg} {list : BitVec 16} (hi : i ∈ [Instr.ldmUser c m rn list, .stmUser c m rn list]) :
    i ∈ blocks c m rn list := by
  simp only [List.mem_cons, List.not_mem_nil, or_false] at hi
  rcases hi with rfl | rfl <;> simp [blocks]

end Forms

/-- Settles O59: each case of the table is one that holds of those its instruction stands behind, so that one of these stops it. -/
theorem unpredictableFaults : Obligations.UnpredictableFaults := by
  unfold Obligations.UnpredictableFaults
  intro s i u hu hpolicy _ hpass
  cases hu with
  | dp _ op c f rn x hop hx => exact (casesOf_dp hpass hop hx).halts hpolicy List.mem_cons_self
  | mrs _ c r => exact (casesOf_mrs hpass).halts hpolicy List.mem_cons_self
  | msr _ c r mask => exact (casesOf_msr (x := .inl 15) hpass).halts hpolicy (u := .msrRm15) (by simp [msrCases, msrOperandCases])
  | msrT _ c mask x ht =>
    refine (casesOf_msr hpass).halts hpolicy (u := .msrTChange) (List.mem_append_right _ ?_)
    rw [← State.msrCpsr_eq] at ht
    rw [if_neg Bool.false_ne_true, bne_iff_ne.mpr ht]
    exact List.mem_cons_self
  | mul15 _ c f rd rs rm h15 =>
    exact (casesOf_mul hpass).halts hpolicy (u := .mulR15) (by rcases h15 with rfl | rfl | rfl <;> simp [mulCases])
  | mla15 _ c f rd rn rs rm h15 =>
    exact (casesOf_mla hpass).halts hpolicy (u := .mulR15) (by rcases h15 with rfl | rfl | rfl | rfl <;> simp [mulCases])
  | mulEq _ c f r rs => exact (casesOf_mul hpass).halts hpolicy (u := .mulRdEqRm) (by simp [mulCases])
  | mlaEq _ c f r rn rs => exact (casesOf_mla hpass).halts hpolicy (u := .mulRdEqRm) (by simp [mulCases])
  | mull15 _ k c f hi lo rs rm h15 =>
    exact (casesOf_mull hpass).halts hpolicy (u := .mullR15) (by rcases h15 with rfl | rfl | rfl | rfl <;> simp [mullCases])
  | mullOverlap _ k c f hi lo rs rm heq => exact (casesOf_mull hpass).halts hpolicy (u := .mullRegOverlap) (by simp [mullCases, heq])
  | loadBack15 _ byte c m rd x hwb =>
    exact (casesOf_load hpass).halts hpolicy (u := .ldstWbRn15) (by simp [wordCases, backCases, backs_eq_writesBack, hwb])
  | storeBack15 _ byte c m rd x hwb =>
    exact (casesOf_store hpass).halts hpolicy (u := .ldstWbRn15) (by simp [wordCases, backCases, backs_eq_writesBack, hwb])
  | halfLoadBack15 _ h c m rd x hwb =>
    exact (casesOf_halfLoad hpass).halts hpolicy (u := .ldstWbRn15) (by simp [halfwordCases, backCases, backs_eq_writesBack, hwb])
  | halfStoreBack15 _ c m rd x hwb =>
    exact (casesOf_storeHalf hpass).halts hpolicy (u := .ldstWbRn15) (by simp [halfwordCases, backCases, backs_eq_writesBack, hwb])
  | loadBackEq _ byte c m r x hwb =>
    exact (casesOf_load hpass).halts hpolicy (u := .ldrWbRnEqRd) (by simp [wordCases, backCases, backs_eq_writesBack, hwb])
  | halfLoadBackEq _ h c m r x hwb =>
    exact (casesOf_halfLoad hpass).halts hpolicy (u := .ldrWbRnEqRd) (by simp [halfwordCases, backCases, backs_eq_writesBack, hwb])
  | loadRm15 _ byte c m rn rd ty n => exact (casesOf_load hpass).halts hpolicy (u := .ldstRm15) (by simp [wordCases])
  | storeRm15 _ byte c m rn rd ty n => exact (casesOf_store hpass).halts hpolicy (u := .ldstRm15) (by simp [wordCases])
  | byte15 _ c m rn x => exact (casesOf_load hpass).halts hpolicy (u := .ldrbRd15) (by simp [wordCases])
  | halfLoadPost _ h c u rn rd x => exact (casesOf_halfLoad hpass).halts hpolicy (u := .halfPostW) (by simp [halfwordCases, halfCases])
  | halfStorePost _ c u rn rd x => exact (casesOf_storeHalf hpass).halts hpolicy (u := .halfPostW) (by simp [halfwordCases, halfCases])
  | halfLoadRm15 _ h c m rn rd => exact (casesOf_halfLoad hpass).halts hpolicy (u := .halfRm15) (by simp [halfwordCases])
  | halfStoreRm15 _ c m rn rd => exact (casesOf_storeHalf hpass).halts hpolicy (u := .halfRm15) (by simp [halfwordCases])
  | halfLoad15 _ h c m rn x => exact (casesOf_halfLoad hpass).halts hpolicy (u := .ldrhRd15) (by simp [halfwordCases])
  | block15 _ c m list i hi =>
    obtain ⟨user, hcases, -⟩ := casesOf_blocks hpass hi
    exact hcases.halts hpolicy (u := .ldmRn15) (by simp [blockTransferCases, blockCases])
  | blockEmpty _ c m rn i hi =>
    obtain ⟨user, hcases, -⟩ := casesOf_blocks hpass hi
    exact hcases.halts hpolicy (u := .ldmEmpty) (by simp [blockTransferCases, blockCases])
  | userInUsr _ c m rn list i husr hi =>
    obtain ⟨user, hcases, huser⟩ := casesOf_blocks hpass (mem_blocks_of_user hi)
    exact hcases.halts hpolicy (u := .ldmUserInUsr) (by simp [blockTransferCases, State.userCases, huser hi, husr])
  | userBack _ c m rn list i hw hi =>
    obtain ⟨user, hcases, huser⟩ := casesOf_blocks hpass (mem_blocks_of_user hi)
    exact hcases.halts hpolicy (u := .ldmUserWb) (by simp [blockTransferCases, State.userCases, huser hi, hw])
  | swap15 _ c rn rd rm i h15 hi =>
    exact (casesOf_swap hpass hi).halts hpolicy (u := .swpR15) (by rcases h15 with rfl | rfl | rfl <;> simp [swapCases])
  | swapEq _ c rn rd rm i heq hi => exact (casesOf_swap hpass hi).halts hpolicy (u := .swpRnOverlap) (by simp [swapCases, heq])
  | bxTarget _ c rm h => exact (casesOf_bx hpass).halts hpolicy (u := .bxArmMisaligned) (by simp only [(misaligned_iff _).mpr h]; simp)
  | tBxTarget _ h1 m h => exact casesOf_tBx.halts hpolicy (u := .bxArmMisaligned) (by simp only [(misaligned_iff _).mpr h]; simp)
  | bxPc _ c => exact (casesOf_bx hpass).halts hpolicy List.mem_cons_self
  | lowLow _ d m i hd hm hi => exact (casesOf_hi hi).halts hpolicy (u := .thumbHiregLowlow) (by simp [lowLowCase, hd, hm])
  | tBxH1 _ m => exact casesOf_tBx.halts hpolicy List.mem_cons_self
  | multipleEmpty _ rb i hi => exact (casesOf_multiple hi).halts hpolicy List.mem_cons_self
  | stackEmpty _ i hi => exact (casesOf_stack hi).halts hpolicy List.mem_cons_self

end Sys2Proof.Machine

end UnpredictableCases

/-! # The I/O write hook and the collaborators (20_memory.md R96, 70_reset_and_hazards.md R611) -/

section Collaborators

open Sys2Proof.Claims Sys2Proof.Machine

namespace Sys2Proof.Machine

/-! ## The window and its snapshot (R94, R96) -/

section Window

variable {c : Config} {a : Word}

theorem page_of_window (hc : c.wf = true) (hlo : 0x04000000 ≤ a.toNat) (hhi : a.toNat ≤ c.ioWindowLast) : a.toNat / 0x1000000 = 0x04 := by
  simp only [Config.wf, Bool.and_eq_true, decide_eq_true_eq] at hc
  omega

theorem transform_window (hc : c.wf = true) (hlo : 0x04000000 ≤ a.toNat) (hhi : a.toNat ≤ c.ioWindowLast) :
    transform c a = .mapped .io (a.toNat - 0x04000000) := by
  rw [transform_io (page_of_window hc hlo hhi), if_pos hhi]

theorem window_of_transform {l : Nat} (h : transform c a = .mapped .io l) : 0x04000000 ≤ a.toNat ∧ a.toNat ≤ c.ioWindowLast := by
  by_cases hpage : a.toNat / 0x1000000 = 0x04
  · rw [transform_io hpage] at h
    split at h
    · omega
    · cases h
  · unfold transform at h
    simp only at h
    split at h
    case h_4 hp => exact absurd hp hpage
    all_goals first | cases h | (split at h <;> cases h)

theorem inWindow_iff (hc : c.wf = true) : inWindow c a = true ↔ 0x04000000 ≤ a.toNat ∧ a.toNat ≤ c.ioWindowLast := by
  unfold inWindow
  constructor
  · intro h
    split at h
    · next l htransform => exact window_of_transform htransform
    · cases h
  · rintro ⟨hlo, hhi⟩
    rw [transform_window hc hlo hhi]

theorem Memory.get_filter {p : Nat → Bool} {k : Nat} (hk : p k = true) (m : Memory) : Memory.get (m.filter fun x => p x.1) k = m.get k := by
  induction m with
  | nil => rfl
  | cons x m ih =>
    obtain ⟨j, b⟩ := x
    by_cases hj : j = k
    · subst hj
      rw [List.filter_cons_of_pos (p := fun x : Host.Cell => p x.1) hk, Memory.get, Memory.get, if_pos rfl, if_pos rfl]
    · cases hp : p j with
      | true => rw [List.filter_cons_of_pos (p := fun x : Host.Cell => p x.1) hp, Memory.get, Memory.get, if_neg hj, if_neg hj, ih]
      | false => rw [List.filter_cons_of_neg (p := fun x : Host.Cell => p x.1) (by simp [hp]), ih, Memory.get, if_neg hj]

/-- The snapshot has every byte of the window as it reads. -/
theorem ioSnapshot_get {s : State} (hc : s.cfg.wf = true) (hlo : 0x04000000 ≤ a.toNat) (hhi : a.toNat ≤ s.cfg.ioWindowLast) :
    Memory.get (ioSnapshot s.cfg s.mem) a.toNat = s.read8 a := by
  have hk : (decide (Region.io.base ≤ a.toNat) && decide (a.toNat ≤ s.cfg.ioWindowLast)) = true := by
    rw [decide_eq_true (p := Region.io.base ≤ a.toNat) hlo, decide_eq_true hhi, Bool.and_self]
  rw [ioSnapshot, Memory.get_filter (p := fun k => decide (Region.io.base ≤ k) && decide (k ≤ s.cfg.ioWindowLast)) hk, State.read8, readByte,
    transform_window hc hlo hhi]
  exact congrArg s.mem.get (Nat.add_sub_cancel' hlo).symm

end Window

/-- Settles O11: the hook is the last thing a write of any width does, so its snapshot is of the memory the write leaves. -/
theorem ioHook : Obligations.IoHook := by
  unfold Obligations.IoHook
  intro s t w a v _ hc ht
  have hcfg : t.cfg = s.cfg := by
    rw [ht]
    cases w
    · exact State.write8_cfg ..
    · exact State.write16_cfg ..
    · exact State.write32_cfg ..
  have hevents : t.ioEvents = s.ioEvents ++
      if inWindow s.cfg a then [⟨w, a, v &&& BitVec.ofNat 32 (2 ^ (8 * w.bytes) - 1), ioSnapshot t.cfg t.mem⟩] else [] := by
    rw [hcfg, ht, ← setWidth_setWidth_eq_and]
    cases w
    · simp only [State.write8, State.hook_ioEvents, State.hook_mem]; rfl
    · simp only [State.write16, State.hook_ioEvents, State.hook_mem]; rfl
    · simp only [State.write32, State.hook_ioEvents, State.hook_mem, Width.bytes, BitVec.setWidth_eq]; rfl
  constructor
  · intro hin
    rw [if_pos ((inWindow_iff hc).mpr hin)] at hevents
    refine ⟨_, hevents, rfl, rfl, rfl, fun b hlo hhi => ?_⟩
    rw [← hcfg] at hc hhi
    exact ioSnapshot_get hc hlo hhi
  · intro hout
    rwa [if_neg (mt (inWindow_iff hc).mp hout), List.append_nil] at hevents

/-! ## What any action leaves (R611) -/

/-- A state but for what an action may change: some bytes of the writable regions, the cost tables, the scheduler's counter and the event list. -/
def ActFrame (s t : State) : Prop :=
  ∃ (m : Memory) (code data : CostTable) (n : DWord) (es : List IoEvent),
    t = { s with mem := m, costCode := code, costData := data, sched := n, ioEvents := es } ∧ (s.mem.wf = true → m.wf = true) ∧
    (s.mem.wf = true → ∀ (a : Word) (r : Region) (l : Nat), r.writable = false → transform s.cfg a = .mapped r l →
      readByte s.cfg m a = s.read8 a)

/-- A byte stored in a writable region leaves the images as they were. -/
theorem actFrame_store {s : State} {r : Region} {l : Nat} (hl : l < r.span) (hr : r.writable = true) (b : Byte) :
    ActFrame s (s.setMem (s.mem.set (r.base + l) b)) := by
  refine ⟨_, s.costCode, s.costData, s.sched, s.ioEvents, rfl, Memory.set_wf _ _, fun hm a r' l' hr' ha => ?_⟩
  have hne : r'.base + l' ≠ r.base + l := by
    intro heq
    have hregion := Region.eq_of_backing (transform_span ha) hl heq
    rw [hregion, hr] at hr'
    cases hr'
  rw [State.read8, readByte, readByte, ha]
  exact (Memory.get_set _ _ _ hm).trans (if_neg hne)

theorem State.poke_eq_some {s t : State} {a : Word} {b : Byte} (h : s.poke a b = some t) :
    ∃ r l, transform s.cfg a = .mapped r l ∧ r.writable = true ∧ t = s.setMem (s.mem.set (r.base + l) b) := by
  unfold State.poke at h
  split at h
  · next r l ha =>
    split at h
    · next hr =>
      cases h
      exact ⟨r, l, ha, hr, rfl⟩
    · cases h
  · cases h
  · cases h

theorem act_frame {x : Action} {s t : State} (h : act x s = some t) : ActFrame s t := by
  have hkept : ∀ (code data : CostTable) (n : DWord) (es : List IoEvent),
      ActFrame s { s with costCode := code, costData := data, sched := n, ioEvents := es } :=
    fun code data n es => ⟨s.mem, code, data, n, es, rfl, id, fun _ _ _ _ _ _ => rfl⟩
  cases x with
  | raise b =>
    cases h
    have hl : 0x202 + b.val / 8 < Region.io.span := by
      rw [Region.span]
      omega
    have hframe := actFrame_store (s := s) hl rfl (s.mem.get (ifByte (b.val / 8)) ||| 1#8 <<< (b.val % 8))
    rwa [← Nat.add_assoc] at hframe
  | poke a b =>
    obtain ⟨r, l, ha, hr, rfl⟩ := State.poke_eq_some h
    exact actFrame_store (transform_span ha) hr b
  | setCost k top w q n =>
    cases k with
    | code =>
      obtain ⟨code, -, rfl⟩ := Option.map_eq_some_iff.mp h
      exact hkept code s.costData s.sched s.ioEvents
    | data =>
      obtain ⟨data, -, rfl⟩ := Option.map_eq_some_iff.mp h
      exact hkept s.costCode data s.sched s.ioEvents
  | consume n =>
    obtain ⟨-, ht⟩ := Option.ite_none_right_eq_some.mp h
    cases ht
    exact hkept s.costCode s.costData (s.sched - n) s.ioEvents
  | drain n =>
    obtain ⟨-, ht⟩ := Option.ite_none_right_eq_some.mp h
    cases ht
    exact hkept s.costCode s.costData s.sched (s.ioEvents.drop n)

/-! ## `raise` (60_exceptions.md R542) -/

/-- A bit set in one of two bytes is that bit set in the halfword. -/
theorem append_or_bit (y z : Byte) (b : Fin 16) :
    ((if b.val / 8 = 1 then z ||| 1#8 <<< (b.val % 8) else z) ++ (if b.val / 8 = 0 then y ||| 1#8 <<< (b.val % 8) else y) : Half) =
      (z ++ y) ||| BitVec.ofNat 16 (2 ^ b.val) := by
  apply BitVec.eq_of_getLsbD_eq
  intro i hi
  rw [BitVec.getLsbD_append, BitVec.getLsbD_or, BitVec.getLsbD_append, ← BitVec.twoPow_eq, BitVec.getLsbD_ofNat, Nat.testBit_two_pow,
    decide_eq_true hi, Bool.true_and]
  rcases Nat.lt_or_ge b.val 8 with hb | hb
  · have hdiv : b.val / 8 = 0 := Nat.div_eq_of_lt hb
    rw [hdiv, if_pos rfl, if_neg Nat.zero_ne_one, Nat.mod_eq_of_lt hb]
    split
    · rw [BitVec.getLsbD_or, BitVec.getLsbD_twoPow, decide_eq_true hb, Bool.true_and]
    · rw [decide_eq_false (by omega), Bool.or_false]
  · have hdiv : b.val / 8 = 1 := by omega
    rw [hdiv, if_pos rfl, if_neg Nat.one_ne_zero]
    split
    · rw [decide_eq_false (by omega), Bool.or_false]
    · rw [BitVec.getLsbD_or, BitVec.getLsbD_twoPow, decide_eq_true (Nat.mod_lt _ (by decide)), Bool.true_and]
      exact congrArg _ (decide_eq_decide.mpr (by omega))

/-! ## `set_cost` (R611) -/

theorem tableRow_above {t : CostTable} {top : Nat} (h : 15 < top) : tableRow t top = flatRow := by
  unfold tableRow
  split
  case h_16 => rfl
  all_goals omega

theorem setTableCost_eq {t : CostTable} {top : Nat} (hlo : 8 ≤ top) (hhi : top ≤ 15) (w : Width) (q : Seq) (n : Nat) :
    ∃ t', setTableCost t top w q n = some t' ∧
      ∀ top', tableRow t' top' = if top' = top then setRowCost (tableRow t top) w q n else tableRow t top' := by
  have habove : ∀ (t' : CostTable) top', 15 < top' →
      tableRow t' top' = if top' = top then setRowCost (tableRow t top) w q n else tableRow t top' := by
    intro t' top' h
    rw [tableRow_above h, tableRow_above h, if_neg (by omega)]
  have hrow : ∃ t', setTableCost t top w q n = some t' ∧
      ∀ top', top' ≤ 15 → tableRow t' top' = if top' = top then setRowCost (tableRow t top) w q n else tableRow t top' := by
    interval_cases top <;> exact ⟨_, rfl, fun top' h => by interval_cases top' <;> rfl⟩
  obtain ⟨t', ht', hrow⟩ := hrow
  exact ⟨t', ht', fun top' => (Nat.lt_or_ge 15 top').elim (habove t' top') (hrow top')⟩

theorem setTableCost_none {t : CostTable} {top : Nat} (h : ¬ (8 ≤ top ∧ top ≤ 15)) (w : Width) (q : Seq) (n : Nat) :
    setTableCost t top w q n = none := by
  unfold setTableCost
  split
  case h_9 => rfl
  all_goals omega

theorem rowCost_setRowCost (r : CostRow) (w w' : Width) (q q' : Seq) (n : Nat) :
    rowCost (setRowCost r w q n) w' q' = if w' = w ∧ q' = q then n else rowCost r w' q' := by
  cases w <;> cases q <;> cases w' <;> cases q' <;> rfl

/-- The cost of an access after one entry of a row is replaced. -/
theorem rowCost_setTableCost {t t' : CostTable} {top : Nat} {w : Width} {q : Seq} {n : Nat}
    (h : ∀ top', tableRow t' top' = if top' = top then setRowCost (tableRow t top) w q n else tableRow t top')
    (w' : Width) (q' : Seq) (top' : Nat) :
    rowCost (tableRow t' top') w' q' = if w' = w ∧ q' = q ∧ top' = top then n else rowCost (tableRow t top') w' q' := by
  rw [h]
  by_cases htop : top' = top
  · subst htop
    simp only [if_true, rowCost_setRowCost, and_true]
  · simp only [htop, if_false, and_false]

theorem act_setCost (s : State) (k : Kind) {top : Nat} (htop : 8 ≤ top ∧ top ≤ 15) (w : Width) (q : Seq) (n : Nat) :
    ∃ code data : CostTable, act (.setCost k top w q n) s = some { s with costCode := code, costData := data } ∧
      ∀ (k' : Kind) (w' : Width) (q' : Seq) (a : Word), ({ s with costCode := code, costData := data } : State).costOf k' q' w' a =
        if k' = k ∧ w' = w ∧ q' = q ∧ a.toNat / 0x1000000 = top then n else s.costOf k' q' w' a := by
  obtain ⟨t', ht', hrow⟩ := setTableCost_eq (t := s.costs k) htop.1 htop.2 w q n
  cases k with
  | code =>
    refine ⟨t', s.costData, congrArg (Option.map _) ht', fun k' w' q' a => ?_⟩
    cases k' with
    | code =>
      simp only [true_and]
      exact rowCost_setTableCost hrow w' q' (a.toNat / 0x1000000)
    | data => rfl
  | data =>
    refine ⟨s.costCode, t', congrArg (Option.map _) ht', fun k' w' q' a => ?_⟩
    cases k' with
    | code => rfl
    | data =>
      simp only [true_and]
      exact rowCost_setTableCost hrow w' q' (a.toNat / 0x1000000)

theorem act_setCost_none (s : State) (k : Kind) {top : Nat} (htop : ¬ (8 ≤ top ∧ top ≤ 15)) (w : Width) (q : Seq) (n : Nat) :
    act (.setCost k top w q n) s = none := by
  cases k <;> exact congrArg (Option.map _) (setTableCost_none htop w q n)

/-! ## `poke` (R611) -/

theorem poke_eq {s : State} {a : Word} {r : Region} {l : Nat} (ha : transform s.cfg a = .mapped r l) (b : Byte) :
    s.poke a b = if r.writable then some (s.setMem (s.mem.set (r.base + l) b)) else none := by
  simp only [State.poke, ha]

theorem readByte_poked {s : State} {a x : Word} {r : Region} {l : Nat} (ha : transform s.cfg a = .mapped r l) (b : Byte) (hm : s.mem.wf = true) :
    readByte s.cfg (s.mem.set (r.base + l) b) x = if transform s.cfg x = .mapped r l then b else s.read8 x := by
  unfold State.read8 readByte
  cases hx : transform s.cfg x with
  | unmapped => rfl
  | outOfWindow => rfl
  | mapped r' l' =>
    refine (Memory.get_set _ _ _ hm).trans ?_
    by_cases heq : r'.base + l' = r.base + l
    · obtain ⟨rfl, rfl⟩ := backing_inj hx ha heq
      rw [if_pos rfl, if_pos rfl]
    · rw [if_neg heq, if_neg]
      rintro ⟨⟩
      exact heq rfl

/-- Settles O56: every action is a store in a writable region or changes the cost tables, the scheduler's counter or the event list. -/
theorem collaboratorFrame : Obligations.CollaboratorFrame := by
  unfold Obligations.CollaboratorFrame
  refine ⟨fun x s t h => ?_, fun s b hm => ?_, fun s a b hm => ⟨fun r l ha hbios hrom => ?_, fun h => ?_⟩,
    fun s k top w q n => ⟨fun htop => act_setCost s k htop w q n, fun htop => act_setCost_none s k htop w q n⟩, fun s n => rfl, fun s n => rfl⟩
  · obtain ⟨m, code, data, n, es, rfl, hwf, himages⟩ := act_frame h
    refine ⟨rfl, rfl, rfl, rfl, rfl, rfl, fun hinv => .mk' hinv.mode hinv.pc (hwf hinv.mem), fun hm a l ha => ?_⟩
    rcases ha with ha | ha
    · exact himages hm a .bios l rfl ha
    · exact himages hm a .rom l rfl ha
  · refine ⟨_, rfl, ?_, fun k h2 h3 => (Memory.get_set _ _ _ hm).trans (if_neg ?_)⟩
    · rw [← append_or_bit, Memory.get_set _ _ _ hm, Memory.get_set _ _ _ hm]
      have hb : b.val / 8 = 0 ∨ b.val / 8 = 1 := by omega
      rcases hb with hb | hb <;> rw [hb] <;> rfl
    · have hb : b.val / 8 = 0 ∨ b.val / 8 = 1 := by omega
      rcases hb with hb | hb <;> rw [hb]
      · exact h2
      · exact h3
  · have hr : r.writable = true := by
      rw [← Bool.not_eq_false, Region.writable_eq_false_iff]
      rintro (h | h)
      · exact hbios h
      · exact hrom h
    exact ⟨_, (poke_eq ha b).trans (if_pos hr), fun x => readByte_poked ha b hm⟩
  · cases ha : transform s.cfg a with
    | unmapped | outOfWindow => simp only [act, State.poke, ha]
    | mapped r l =>
      have hr := (Region.writable_eq_false_iff r).mpr (h r l ha)
      exact (poke_eq ha b).trans (if_neg (by rw [hr]; exact Bool.false_ne_true))

end Sys2Proof.Machine

end Collaborators

/-! # Where an access above the I/O window stops, and what that leaves (20_memory.md R95, 70_reset_and_hazards.md R580) -/

section AboveTheWindow

open Sys2Proof.Claims Sys2Proof.Machine

namespace Sys2Proof.Machine

/-! ## Single accesses: the stop comes before anything is changed -/

section Single

variable {s : State}

theorem mem_byteAddrs (a : Word) {w : Width} {k : Nat} (hk : k < w.bytes) : a + BitVec.ofNat 32 k ∈ byteAddrs a w := by
  cases w <;> simp only [Width.bytes] at hk <;> interval_cases k <;> simp [byteAddrs]

theorem accessFaults_of_reachesAbove {a : Word} {w : Width} (hoow : s.cfg.oow = .fault) (h : ReachesAbove s (a, w)) :
    accessFaults s.cfg a w = true := by
  obtain ⟨k, hk, habove⟩ := h
  rw [accessFaults, hoow, decide_eq_true rfl, Bool.true_and]
  exact List.any_eq_true.mpr ⟨_, mem_byteAddrs a hk, decide_eq_true habove⟩

theorem State.access_above {a : Word} {w : Width} (h : accessFaults s.cfg a w = true) (k : Result) : s.access a w k = s.stop .ioOutOfWindow :=
  if_pos h

theorem State.load_above {k : LoadKind} {a : Word} (hoow : s.cfg.oow = .fault) (h : ReachesAbove s (issued k a)) (rd : Reg) (wb : Bool)
    (rn : Reg) (back : Word) : s.load k a rd wb rn back = s.stop .ioOutOfWindow := by
  rw [issued_eq] at h
  exact State.access_above (accessFaults_of_reachesAbove hoow h) _

theorem State.store_above {k : StoreKind} {a : Word} (hoow : s.cfg.oow = .fault) (h : ReachesAbove s (storeAt k a)) (v : Word) (wb : Bool)
    (rn : Reg) (back : Word) : s.store k a v wb rn back = s.stop .ioOutOfWindow := by
  rw [StoreKind.storeAt_eq] at h
  exact State.access_above (accessFaults_of_reachesAbove hoow h) _

theorem State.swapAt_above {k : LoadKind} {w : StoreKind} {a : Word} (hoow : s.cfg.oow = .fault) (h : ReachesAbove s (storeAt w a))
    (rd rm : Reg) : s.swapAt k w a rd rm = s.stop .ioOutOfWindow := by
  rw [StoreKind.storeAt_eq] at h
  exact State.access_above (accessFaults_of_reachesAbove hoow h) _

end Single

/-! ## The words of a block that are reached -/

section Reached

variable {s : State} {start : Word} {rs : List Reg}

theorem takeWhile_zip_snd {α β : Type} (p : β → Bool) (rs : List α) (as : List β) :
    (rs.zip as).takeWhile (fun x => p x.2) = rs.zip (as.takeWhile p) := by
  induction rs generalizing as with
  | nil => rfl
  | cons r rs ih =>
    cases as with
    | nil => rfl
    | cons a as =>
      cases hp : p a with
      | true => simp only [List.zip_cons_cons, List.takeWhile_cons, hp, if_true, ih]
      | false => simp only [List.zip_cons_cons, List.takeWhile_cons, hp, Bool.false_eq_true, if_false, List.zip_nil_right]

theorem blockReached_eq_zip (s : State) (start : Word) (rs : List Reg) :
    blockReached s.cfg (blockPairs start rs) = rs.zip (reachedWords s (wordsFrom start rs.length)) := by
  rw [blockPairs_eq_zip]
  exact takeWhile_zip_snd (fun a => !accessFaults s.cfg a .w32) rs _

theorem blockReached_fst_nodup (hnd : rs.Nodup) : ((blockReached s.cfg (blockPairs start rs)).map Prod.fst).Nodup := by
  have hsub := (List.takeWhile_sublist (l := blockPairs start rs) fun x => !accessFaults s.cfg x.2 .w32).map Prod.fst
  rw [blockPairs_fst] at hsub
  exact hsub.nodup hnd

theorem blockReached_snd (s : State) (start : Word) (rs : List Reg) :
    (blockReached s.cfg (blockPairs start rs)).map Prod.snd = reachedWords s (wordsFrom start rs.length) := by
  have hlen := (List.takeWhile_sublist (l := wordsFrom start rs.length) fun a => !accessFaults s.cfg a .w32).length_le
  rw [wordsFrom_length] at hlen
  rw [blockReached_eq_zip]
  exact List.map_snd_zip hlen

theorem storedWords_zip (s : State) (user : Bool) (list : List Reg) (wb : Bool) (rn : Reg) (back : Word) (rs : List Reg) (as : List Word) :
    s.storedWords user list wb rn back (rs.zip as) = as.zip (rs.map (blockValue s user list wb rn back)) := by
  rw [List.zip_map_right, ← List.zip_swap rs as, List.map_map, State.storedWords]
  refine List.map_congr_left fun x _ => ?_
  rw [State.storedReg_eq_blockValue]
  rfl

theorem blockFaults_of_reachesAbove (hoow : s.cfg.oow = .fault) (h : BlockReachesAbove s (wordsFrom start rs.length)) :
    blockFaults s.cfg (blockPairs start rs) = true := by
  obtain ⟨a, ha, habove⟩ := h
  rw [← blockPairs_snd] at ha
  obtain ⟨x, hx, rfl⟩ := List.mem_map.mp ha
  exact List.any_eq_true.mpr ⟨x, hx, accessFaults_of_reachesAbove hoow habove⟩

/-- What a block load has done where it stops: the words reached are charged and loaded, after an early write-back. -/
theorem loadReached_core (s : State) (user wb : Bool) (rn : Reg) (back start : Word) (hnd : rs.Nodup) :
    let as := reachedWords s (wordsFrom start rs.length)
    let t := s.loadReached user wb rn back (blockReached s.cfg (blockPairs start rs))
    Core s t (blockLoads s user rs as ++ (if wb then [dest s rn back] else [])) s.cpsr s.spsr.get (blockCost s as) ∧ MemoryKept s t := by
  intro as t
  have h := loadStuck_core s user wb rn back (blockReached s.cfg (blockPairs start rs)) (low := blockReached s.cfg (blockPairs start rs))
    (blockReached_fst_nodup hnd)
  rw [blockReached_snd] at h
  simp only [blockReached_eq_zip, ← blockLoads_eq_pairWrites] at h
  simp only [t, blockReached_eq_zip]
  exact h

/-- The stop of an instruction that is a block load. -/
theorem haltsAfter_of_loadBlock {i : Instr} {user early wb : Bool} {rn : Reg} {back : Word}
    (hi : exec i s = s.loadBlock user early start rs wb rn back) (hnd : rs.Nodup) (hoow : s.cfg.oow = .fault) (h : BlockReachesAbove s (wordsFrom start rs.length)) :
    HaltsAfter i s .ioOutOfWindow
      (blockLoads s user rs (reachedWords s (wordsFrom start rs.length)) ++ (if wb && early then [dest s rn back] else []))
      (blockCost s (reachedWords s (wordsFrom start rs.length))) :=
  ⟨_, hi.trans (State.loadBlock_above (blockFaults_of_reachesAbove hoow h) user early wb rn back),
    loadReached_core s user (wb && early) rn back start hnd⟩

/-- The stop of an instruction that is a block store: the words reached are stored, before an early write-back. -/
theorem haltsAfterStores_of_storeBlock {i : Instr} {user early wb : Bool} {rn : Reg} {back : Word}
    (hi : exec i s = s.storeBlock user early start rs wb rn back) (hm : s.mem.wf = true) (hoow : s.cfg.oow = .fault)
    (h : BlockReachesAbove s (wordsFrom start rs.length)) :
    HaltsAfterStores i s (if wb && early then [dest s rn back] else [])
      ((reachedWords s (wordsFrom start rs.length)).zip (rs.map (blockValue s user rs wb rn back)))
      (blockCost s (reachedWords s (wordsFrom start rs.length))) := by
  have hstop := hi.trans (State.storeBlock_above (blockFaults_of_reachesAbove hoow h) user early wb rn back)
  obtain ⟨-, -, -, hmem, -, -, hio, -, hcfg, -⟩ := State.chargeBlock_keeps (blockReached s.cfg (blockPairs start rs)) s .n
  have hcharged := (Core.refl s).chargeBlock (blockReached s.cfg (blockPairs start rs))
  rw [Nat.zero_add, blockReached_snd] at hcharged
  have hcore := (hcharged.storeWords (s.storedWords user rs wb rn back (blockReached s.cfg (blockPairs start rs)))).writeBack_same
    (wb && early) rn back
  have hstores := State.storeWords_storesBlock (s.storedWords user rs wb rn back (blockReached s.cfg (blockPairs start rs))) hcfg hmem hio hm
  have hwords : s.storedWords user rs wb rn back (blockReached s.cfg (blockPairs start rs)) =
      (reachedWords s (wordsFrom start rs.length)).zip (rs.map (blockValue s user rs wb rn back)) := by
    rw [blockReached_eq_zip, storedWords_zip]
  rw [List.append_nil] at hcore
  refine ⟨_, hstop, hcore, ?_⟩
  rw [← hwords]
  exact hstores.congr (State.writeBack_cfg ..) (State.writeBack_mem ..) (State.writeBack_ioEvents ..)

end Reached

/-! ## The instructions -/

theorem step_above {s : State} (hfault : s.fault = none) (htaken : s.taken = none) (hoow : s.cfg.oow = .fault)
    (h : ReachesAbove s (s.pc, s.fw)) : Halts (step s) .ioOutOfWindow s.takeInputs :=
  (step_of_no_interrupt hfault htaken).trans (State.access_above (s := s.takeInputs) (accessFaults_of_reachesAbove (s := s) hoow h) _)

section Arm

variable {s : State} {c : Cond} (hpass : s.passes c = true) (hoow : s.cfg.oow = .fault)

include hpass hoow

theorem wordForms_above (byte : Bool) (m : Idx) (rn rd : Reg) (x : BitVec 12 ⊕ ImmShift)
    (h : ReachesAbove s (storeAt (if byte then .byte else .word) (transferAddress m (s.reg rn) (wordOffset s x)))) :
    (Permits s (wordRegular true byte m rn rd x) → Halts (exec (loadWordOrByte byte c m rn rd x) s) .ioOutOfWindow s) ∧
      (Permits s (wordRegular false byte m rn rd x) → Halts (exec (storeWordOrByte byte c m rn rd x) s) .ioOutOfWindow s) := by
  have hissued : ReachesAbove s (issued (if byte then .byte else .word) (transferAddress m (s.reg rn) (wordOffset s x))) := by
    cases byte <;> exact h
  refine ⟨fun hpermits => ?_, fun hpermits => ?_⟩
  · rw [exec_loadWordOrByte hpass, State.guarded_of_permits hpermits firstCase_wordCases]
    exact State.load_above hoow hissued rd _ rn _
  · rw [exec_storeWordOrByte hpass, State.guarded_of_permits hpermits firstCase_wordCases]
    exact State.store_above hoow h _ _ rn _

theorem halfForms_above (k : HalfLoad) (m : Idx) (rn rd : Reg) (x : BitVec 8 ⊕ Reg) :
    (Permits s (halfRegular true m rn rd x) → ReachesAbove s (issued k.kind (transferAddress m (s.reg rn) (halfOffset s x))) →
      Halts (exec (k.instr c m rn rd x) s) .ioOutOfWindow s) ∧
    (Permits s (halfRegular false m rn rd x) → ReachesAbove s (storeAt .half (transferAddress m (s.reg rn) (halfOffset s x))) →
      Halts (exec (storeHalf c m rn rd x) s) .ioOutOfWindow s) := by
  refine ⟨fun hpermits h => ?_, fun hpermits h => ?_⟩
  · rw [exec_halfLoad hpass, State.guarded_of_permits hpermits firstCase_halfwordCases]
    exact State.load_above hoow h rd _ rn _
  · rw [exec_storeHalf hpass, State.guarded_of_permits hpermits firstCase_halfwordCases]
    exact State.store_above hoow h _ _ rn _

theorem swap_above (byte : Bool) (rn rd rm : Reg) (hpermits : Permits s (rn ≠ 15 ∧ rd ≠ 15 ∧ rm ≠ 15 ∧ rn ≠ rd ∧ rn ≠ rm))
    (h : ReachesAbove s (storeAt (if byte then .byte else .word) (s.reg rn))) :
    Halts (exec (if byte then .swpb c rn rd rm else .swp c rn rd rm) s) .ioOutOfWindow s := by
  rw [exec_swap hpass, State.guarded_of_permits hpermits firstCase_swapCases]
  exact State.swapAt_above hoow h rd rm

section Block

variable {m : Idx} {rn : Reg} {list : BitVec 16}
  (h : BlockReachesAbove s (wordsFrom (blockFrom m (s.reg rn) (registers list).length) (registers list).length))

include h

theorem loadMultiple_above {user : Bool} (hpermits : Permits s (rn ≠ 15 ∧ list ≠ 0 ∧ (user = true → s.mode ≠ .usr ∧ m.w = false))) :
    let as := reachedWords s (wordsFrom (blockFrom m (s.reg rn) (registers list).length) (registers list).length)
    HaltsAfter (if user then .ldmUser c m rn list else .ldm c m rn list) s .ioOutOfWindow
      (blockLoads s user (registers list) as ++
        (if decide (m.w = true ∧ rn ≠ 15) then [dest s rn (blockEnd m (s.reg rn) (registers list).length)] else [])) (blockCost s as) := by
  have hexec : exec (if user then .ldmUser c m rn list else .ldm c m rn list) s =
      s.loadBlock user true (blockFrom m (s.reg rn) (registers list).length) (registers list) (decide (m.w = true ∧ rn ≠ 15)) rn
        (blockEnd m (s.reg rn) (registers list).length) := by
    rw [exec_loadMultiple hpass, State.guarded_of_permits hpermits firstCase_blockTransferCases, ← blockStart_eq_blockFrom, ← blockBack_eq]
    rfl
  have hhalts := haltsAfter_of_loadBlock hexec (registers_nodup list) hoow h
  rwa [Bool.and_true] at hhalts

theorem storeMultiple_above {user : Bool} (hm : s.mem.wf = true)
    (hpermits : Permits s (rn ≠ 15 ∧ list ≠ 0 ∧ (user = true → s.mode ≠ .usr ∧ m.w = false))) :
    let as := reachedWords s (wordsFrom (blockFrom m (s.reg rn) (registers list).length) (registers list).length)
    HaltsAfterStores (if user then .stmUser c m rn list else .stm c m rn list) s []
      (as.zip ((registers list).map (blockValue s user (registers list) (decide (m.w = true ∧ rn ≠ 15)) rn
        (blockEnd m (s.reg rn) (registers list).length)))) (blockCost s as) := by
  have hexec : exec (if user then .stmUser c m rn list else .stm c m rn list) s =
      s.storeBlock user false (blockFrom m (s.reg rn) (registers list).length) (registers list) (decide (m.w = true ∧ rn ≠ 15)) rn
        (blockEnd m (s.reg rn) (registers list).length) := by
    rw [exec_storeMultiple hpass, State.guarded_of_permits hpermits firstCase_blockTransferCases, ← blockStart_eq_blockFrom, ← blockBack_eq]
    rfl
  have hhalts := haltsAfterStores_of_storeBlock hexec hm hoow h
  rwa [Bool.and_false, if_neg Bool.false_ne_true] at hhalts

/-- The exception-return LDM stops as the other one does: before it reads an SPSR. -/
theorem loadReturn_above (hpermits : Permits s (rn ≠ 15 ∧ list ≠ 0)) :
    let as := reachedWords s (wordsFrom (blockFrom m (s.reg rn) (registers list).length) (registers list).length)
    HaltsAfter (.ldmRet c m rn list) s .ioOutOfWindow
      (blockLoads s false (registers list) as ++
        (if decide (m.w = true ∧ rn ≠ 15) then [dest s rn (blockEnd m (s.reg rn) (registers list).length)] else [])) (blockCost s as) := by
  intro as
  have hcases : rn ≠ 15 ∧ list ≠ 0 → firstCase (blockCases rn list) = none := fun ⟨h15, h0⟩ =>
    firstCase_blockTransferCases (s := s) (user := false) (m := m) ⟨h15, h0, nofun⟩
  refine ⟨_, ?_, loadReached_core s false (decide (m.w = true ∧ rn ≠ 15)) rn (blockEnd m (s.reg rn) (registers list).length)
    (blockFrom m (s.reg rn) (registers list).length) (registers_nodup list)⟩
  rw [exec_ldmRet hpass, State.guarded_of_permits hpermits hcases, blockStart_eq_blockFrom, blockBack_eq, blockBase_eq_blockEnd]
  exact State.accessBlock_above (blockFaults_of_reachesAbove hoow h) _ _

end Block

end Arm

section Thumb

variable {s : State} {ro rb rd : LoReg} {off5 : BitVec 5} {off8 : BitVec 8}

theorem exec_thumbLoads : ∀ x ∈ thumbLoads s ro rb rd off5 off8, exec x.1 s = s.thumbLoad x.2.1 x.2.2 rd := by
  unfold thumbLoads
  rw [← times4_eq, ← times4_eq, ← times2_eq]
  simp only [List.forall_mem_cons]
  exact ⟨rfl, rfl, rfl, rfl, rfl, rfl, rfl, rfl, rfl, rfl, List.forall_mem_nil _⟩

theorem exec_thumbStores : ∀ x ∈ thumbStores s ro rb rd off5 off8, exec x.1 s = s.thumbStore x.2.1 x.2.2 rd := by
  unfold thumbStores
  rw [← times4_eq, ← times4_eq, ← times2_eq]
  simp only [List.forall_mem_cons]
  exact ⟨rfl, rfl, rfl, rfl, rfl, rfl, rfl, List.forall_mem_nil _⟩

end Thumb

/-- Settles O12: a single access stops before it changes anything, a block after the words it has reached, with an early write-back done. -/
theorem outOfWindowFaults : Obligations.OutOfWindowFaults := by
  unfold Obligations.OutOfWindowFaults
  refine ⟨fun s hfault htaken hoow h => step_above hfault htaken hoow h,
    fun s byte c m rn rd x ⟨_, hpass⟩ hoow h => wordForms_above hpass hoow byte m rn rd x h,
    fun s k c m rn rd x ⟨_, hpass⟩ hoow => halfForms_above hpass hoow k m rn rd x,
    fun s byte c rn rd rm ⟨_, hpass⟩ hoow hpermits h => swap_above hpass hoow byte rn rd rm hpermits h, ?_, ?_, ?_⟩
  · rintro s c m rn list ⟨-, hpass⟩ hm hoow rs all as wb back loads stores hpermits h
    have hplain : Permits s (rn ≠ 15 ∧ list ≠ 0 ∧ (false = true → s.mode ≠ .usr ∧ m.w = false)) :=
      hpermits.imp_right fun ⟨h15, h0⟩ => ⟨h15, h0, nofun⟩
    refine ⟨?_, storeMultiple_above hpass hoow h (user := false) hm hplain, fun huser => ?_⟩
    · rw [List.forall_mem_cons, List.forall_mem_singleton]
      exact ⟨loadMultiple_above hpass hoow h (user := false) hplain, loadReturn_above hpass hoow h hpermits⟩
    · have hboth : Permits s (rn ≠ 15 ∧ list ≠ 0 ∧ (true = true → s.mode ≠ .usr ∧ m.w = false)) :=
        hpermits.elim .inl fun ⟨h15, h0⟩ => huser.imp_right fun hu => ⟨h15, h0, fun _ => hu⟩
      exact ⟨loadMultiple_above hpass hoow h (user := true) hboth, storeMultiple_above hpass hoow h (user := true) hm hboth⟩
  · intro s ro rb rd off5 off8 _ hoow
    exact ⟨fun x hx h => (exec_thumbLoads x hx).trans (State.load_above hoow h _ _ _ _),
      fun x hx h => (exec_thumbStores x hx).trans (State.store_above hoow h _ _ _ _)⟩
  · intro s r rb list _ hm hoow rs sp
    refine ⟨fun hpermits => ⟨?_, ?_⟩, ?_⟩
    · intro pushed a as h
      have hvalues : pushed.map (blockValue s false pushed true 13 a) = pushed.map fun i => s.regs.get (phys s.mode i) :=
        List.map_congr_left fun i hi => blockValue_of_ne (pushList_ne hi).1 (pushList_ne hi).2
      rw [← hvalues]
      exact haltsAfterStores_of_storeBlock (i := .tPush r list) (early := true) (State.guarded_of_permits hpermits firstCase_pushPopCase _) hm hoow h
    · intro popped as h
      have hhalts := haltsAfter_of_loadBlock (i := .tPop r list) (State.guarded_of_permits hpermits firstCase_pushPopCase _) (popList_nodup r list)
        hoow h
      rwa [Bool.and_false, if_neg Bool.false_ne_true, List.append_nil] at hhalts
    · intro hpermits as h
      have hguard := State.guarded_of_permits hpermits firstCase_multipleCase
      have hstore := haltsAfterStores_of_storeBlock (i := .tStmia rb list) (hguard _) hm hoow h
      have hload := haltsAfter_of_loadBlock (i := .tLdmia rb list) (hguard _) (lowList_nodup list) hoow h
      rw [Bool.and_false, if_neg Bool.false_ne_true] at hstore hload
      rw [List.append_nil] at hload
      exact ⟨hstore, hload⟩

end Sys2Proof.Machine

end AboveTheWindow
